-- ==== Sys2Proof/Word.lean ====
section
/-! DEFINITION. The value types of the APC (spec/00_scope.md R10): bytes, unsigned 16-bit values, the 8-byte frame,
and the tokens that name collaborators and their handles. Every value is unsigned; nothing is ever sign-extended. -/

namespace Sys2Proof

/-- `byte` of R10: a natural in 0..255. -/
abbrev Byte := BitVec 8

/-- `u16` of R10: a natural in 0..65535. -/
abbrev U16 := BitVec 16

/-- An outbound command frame: 8 bytes, offsets 0..7 (R23, R91). -/
abbrev Frame := Vector Byte 8

/-- A handle returned by a collaborator's open (R241, R245): an opaque token that the environment chooses. -/
abbrev Handle := Nat

/-- An opaque platform identity (`BUS_ID`, `DEVICE_ID`, `PIN_ID`, `BUS_MODE` of R7). -/
abbrev PlatformId := Nat

end Sys2Proof
end

