-- ==== Sys2Proof/Config.lean ====
section
/-! DEFINITION. The parameters a model of the APC takes (spec/00_scope.md R7), the configuration record, and the free
values: opaque constants with no body, of which nothing can be proved.
The parameters that the platform fixes before START (R313) are the record `Params`, which State holds, so that every
statement about all states holds for all parameters (log 8). -/

namespace Sys2Proof

/-- The configuration record of R22: seven unsigned naturals in frame order, each of unbounded width at the host
interface (D32), so that an out-of-range value reaches the framer's check. -/
structure AcqConfig where
  randomPhaseChip : Nat
  randomOnTime : Nat
  numCpi : Nat
  numPulse : Nat
  numChip : Nat
  numCycle : Nat
  priLength : Nat
  deriving DecidableEq, Repr, Inhabited

/-- `READY_SENSE` of R7 (R246, R247). -/
inductive ReadySense where
  | edge
  | level
  deriving DecidableEq, Repr

/-- `FRAME_RANGE_POLICY` of R7 (R161, R163). -/
inductive RangePolicy where
  | validate
  | truncate
  deriving DecidableEq, Repr

/-- The parameters of R7 that are not fixed by the source. A duration is a natural; the model has no time (R325), so
only whether a timeout is set matters (R248). -/
structure Params where
  /-- `BUS_ID`, OPEN. -/
  busId : PlatformId
  /-- `DEVICE_ID`, OPEN. -/
  deviceId : PlatformId
  /-- `PIN_ID`, OPEN. -/
  pinId : PlatformId
  /-- `BUS_MODE`, OPEN: bit order, clock phase and polarity, chip select; no rule depends on it (R67). -/
  busMode : PlatformId
  /-- `CLOCK_HZ`, a performance parameter (R252). -/
  clockHz : Nat
  /-- `READY_SENSE`. -/
  readySense : ReadySense
  /-- `READY_TIMEOUT`: none, or a positive duration. -/
  readyTimeout : Option Nat
  /-- `XFER_TIMEOUT`: none, or a positive duration. -/
  xferTimeout : Option Nat
  /-- `CANCELLABLE`. -/
  cancellable : Bool
  /-- `FRAME_RANGE_POLICY`. -/
  frameRangePolicy : RangePolicy
  /-- `HANDSHAKE_FILL`: two bytes, the first sent first. -/
  handshakeFill : Byte × Byte
  deriving DecidableEq, Repr

namespace Config

/-- `FRAME_LEN` of R7. -/
def frameLen : Nat := 8

/-- `LEN_XFER_LEN` of R7. -/
def lenXferLen : Nat := 2

/-- `GROUP_LEN` of R7. -/
def groupLen : Nat := 4

/-- `LEN_SCALE` of R7: block bytes per announced unit. -/
def lenScale : Nat := 4

/-- `BLOCK_FILL` of R7 and R94: the value the source fixes. -/
def blockFill : Byte := 0x00

/-- `BUS_ID`, left OPEN by R7: a free value (DESIGN CHOICE, log 25, safe). -/
opaque busId : PlatformId

/-- `DEVICE_ID`, left OPEN by R7: a free value (DESIGN CHOICE, log 25, safe). -/
opaque deviceId : PlatformId

/-- `PIN_ID`, left OPEN by R7: a free value (DESIGN CHOICE, log 25, safe). -/
opaque pinId : PlatformId

/-- `BUS_MODE`, left OPEN by R7: a free value (DESIGN CHOICE, log 25, safe). -/
opaque busMode : PlatformId

/-- What reading an unwritten `cfg` gives; no rule performs such a read (R38). A free value (DESIGN CHOICE, log 9, safe). -/
opaque unwrittenCfg : AcqConfig

/-- What reading an unwritten `frame` gives; no rule performs such a read (R38). A free value (DESIGN CHOICE, log 9, safe). -/
opaque unwrittenFrame : Frame

/-- What reading an unwritten `blk_len` gives; no rule performs such a read (R38). A free value (DESIGN CHOICE, log 9, safe). -/
opaque unwrittenBlkLen : Nat

/-- The handle a request would carry if its handle register held none; no rule does that (R240 to R249). A free value
(DESIGN CHOICE, log 10, safe). -/
opaque unheldHandle : Handle

/-- The parameters with the defaults of R7: the reference clock rate, EDGE, no timeouts, not cancellable, VALIDATE,
zero fill. -/
def defaults : Params where
  busId := busId
  deviceId := deviceId
  pinId := pinId
  busMode := busMode
  clockHz := 6400000
  readySense := .edge
  readyTimeout := none
  xferTimeout := none
  cancellable := false
  frameRangePolicy := .validate
  handshakeFill := (0x00, 0x00)

end Config

end Sys2Proof
end

