-- ==== Sys2Proof/Syntax.lean ====
section
/-! DEFINITION. The operations of the APC: one constructor per row of spec/opcode_table.json (spec/30_encoding.md R99),
with the operand types the row and the operation's rule give. An operation whose operands are parameters or SEQ state
(R100) has no operand here. -/

namespace Sys2Proof

/-- The operations of R99. -/
inductive Instr where
  /-- 0x01 COMBINE `upper`, `lower` (R121). -/
  | combine (upper lower : Byte)
  /-- 0x02 SPLIT `value` (R122). -/
  | split (value : U16)
  /-- 0x03 DECODE_BLOCK `g` (R124): any byte sequence; the operation checks its length. -/
  | decodeBlock (g : List Byte)
  /-- 0x04 DECODE_STREAM `b` (R125): any byte sequence; the operation checks its length. -/
  | decodeStream (b : List Byte)
  /-- 0x05 ENCODE_BLOCK `sample1`, `sample2` (R126). -/
  | encodeBlock (sample1 sample2 : U16)
  /-- 0x06 ENCODE_STREAM `c1`, `c2` (R127): any two sequences; the operation checks their lengths. -/
  | encodeStream (c1 c2 : List U16)
  /-- 0x10 BUILD_FRAME `cfg` (R160). -/
  | buildFrame (c : AcqConfig)
  /-- 0x20 START `cfg` (R182). -/
  | start (c : AcqConfig)
  /-- 0x21 OPEN_BUS (R183). -/
  | openBus
  /-- 0x22 OPEN_SIG (R184). -/
  | openSig
  /-- 0x23 FRAME (R185). -/
  | frame
  /-- 0x24 CMD_XFER (R186). -/
  | cmdXfer
  /-- 0x25 CMD_WAIT (R187). -/
  | cmdWait
  /-- 0x26 LEN_XFER (R188). -/
  | lenXfer
  /-- 0x27 BLK_WAIT (R190). -/
  | blkWait
  /-- 0x28 BLK_XFER (R191). -/
  | blkXfer
  /-- 0x29 CLOSE_SIG (R193). -/
  | closeSig
  /-- 0x2A CLOSE_BUS (R194). -/
  | closeBus
  /-- 0x2B TAKE (R197). -/
  | take
  /-- 0x30 RUN_ACQUISITION `config` (R198). -/
  | runAcquisition (c : AcqConfig)
  /-- 0x40 BUS_OPEN (R241): its operands are the parameters `BUS_ID`, `DEVICE_ID`, `CLOCK_HZ`. -/
  | busOpen
  /-- 0x41 BUS_TRANSFER `handle`, `out` (R242). -/
  | busTransfer (h : Handle) (out : List Byte)
  /-- 0x42 BUS_CLOSE `handle` (R244). -/
  | busClose (h : Handle)
  /-- 0x48 SIG_OPEN (R245): its operand is the parameter `PIN_ID`. -/
  | sigOpen
  /-- 0x49 SIG_WAIT `handle` (R246). -/
  | sigWait (h : Handle)
  /-- 0x4A SIG_CLOSE `handle` (R249). -/
  | sigClose (h : Handle)
  deriving DecidableEq, Repr

/-- The operation code of R99. -/
def Instr.opCode : Instr → Byte
  | .combine _ _ => 0x01
  | .split _ => 0x02
  | .decodeBlock _ => 0x03
  | .decodeStream _ => 0x04
  | .encodeBlock _ _ => 0x05
  | .encodeStream _ _ => 0x06
  | .buildFrame _ => 0x10
  | .start _ => 0x20
  | .openBus => 0x21
  | .openSig => 0x22
  | .frame => 0x23
  | .cmdXfer => 0x24
  | .cmdWait => 0x25
  | .lenXfer => 0x26
  | .blkWait => 0x27
  | .blkXfer => 0x28
  | .closeSig => 0x29
  | .closeBus => 0x2A
  | .take => 0x2B
  | .runAcquisition _ => 0x30
  | .busOpen => 0x40
  | .busTransfer _ _ => 0x41
  | .busClose _ => 0x42
  | .sigOpen => 0x48
  | .sigWait _ => 0x49
  | .sigClose _ => 0x4A

end Sys2Proof
end

