-- ==== Sys2Proof/WellFormed.lean ====
section
/-! DEFINITION. The checks the spec states on operands, configurations and parameters. None of them decides whether an
operation can be decoded or has a meaning: a codec operation outside its domain decodes and faults (spec/60_exceptions.md
R281), a configuration out of range is accepted by START and rejected by FRAME (spec/41_framer.md R161). -/

namespace Sys2Proof

/-- The operands lie in the operation's stated domain (R120): a whole group for DECODE_BLOCK (R124), whole groups for
DECODE_STREAM (R125), sequences of one length for ENCODE_STREAM (R127); every other operation takes any operand. -/
def Instr.wellFormed : Instr → Bool
  | .decodeBlock g => g.length == Config.groupLen
  | .decodeStream b => b.length % Config.groupLen == 0
  | .encodeStream c1 c2 => c1.length == c2.length
  | .combine _ _ | .split _ | .encodeBlock _ _ | .buildFrame _ | .start _ | .openBus | .openSig | .frame | .cmdXfer
  | .cmdWait | .lenXfer | .blkWait | .blkXfer | .closeSig | .closeBus | .take | .runAcquisition _ | .busOpen
  | .busTransfer _ _ | .busClose _ | .sigOpen | .sigWait _ | .sigClose _ => true

/-- Every field of the record lies in its declared range (R161): six byte fields in 0..255, `pri_length` in 0..65535. -/
def AcqConfig.inRange (c : AcqConfig) : Bool :=
  c.randomPhaseChip ≤ 255 && c.randomOnTime ≤ 255 && c.numCpi ≤ 255 && c.numPulse ≤ 255 && c.numChip ≤ 255 &&
    c.numCycle ≤ 255 && c.priLength ≤ 65535

/-- The parameters have the values R7 admits: a positive clock rate, and timeouts that are none or positive. -/
def Params.wellFormed (p : Params) : Bool :=
  0 < p.clockHz && p.readyTimeout != some 0 && p.xferTimeout != some 0

end Sys2Proof
end

