-- ==== Sys2Proof/Decode.lean ====
section
/-! DEFINITION. The decoder of operations, total on any bytes, and after it the encoder.
The operation codes are those of spec/30_encoding.md R99. The spec gives no bytes to an operation's operands: the layout
after the code is the model's (DESIGN CHOICE, log 1): a byte as itself; a u16 low byte first, as every 16-bit value of the
spec (R65); a natural in groups of 7 bits, least significant group first, bit 7 of a byte set when another byte follows; a
sequence as its length (a natural) and its elements in order; the operands in the order the operation's rule lists them. -/

namespace Sys2Proof

/-- Why bytes are no operation. -/
inductive DecodeRefusal where
  /-- The code is not listed in R99 (R104, I15: refuse). Safe. -/
  | unknownOperation (code : Byte)
  /-- The bytes end before the operation's operands do (log 16). Safe. -/
  | truncatedOperation (code : Byte)
  /-- There are no bytes. Safe. -/
  | noBytes
  deriving DecidableEq, Repr

/-- A reader of a prefix of a byte sequence: the value and the bytes after it, or none where the bytes end too soon. -/
abbrev Reader (α : Type) := List Byte → Option (α × List Byte)

/-- The reader that reads nothing. -/
def readPure {α : Type} (a : α) : Reader α := fun bs => some (a, bs)

/-- Read with `r`, then with what `f` gives for the value read. -/
def readThen {α β : Type} (r : Reader α) (f : α → Reader β) : Reader β := fun bs =>
  match r bs with
  | none => none
  | some (a, rest) => f a rest

/-- One byte. -/
def readByte : Reader Byte
  | [] => none
  | b :: bs => some (b, bs)

/-- The 16-bit value whose low byte is `lo` and whose high byte is `hi` (R65). -/
def wordOfLanes (lo hi : Byte) : U16 := BitVec.ofNat 16 (lo.toNat + 256 * hi.toNat)

/-- A u16, low byte first. -/
def readWord : Reader U16 :=
  readThen readByte fun lo => readThen readByte fun hi => readPure (wordOfLanes lo hi)

/-- A natural: 7 bits a byte, least significant first; a byte of 128 or more is followed by another. -/
def readNat : Reader Nat
  | [] => none
  | b :: bs =>
    if b.toNat < 128 then some (b.toNat, bs)
    else
      match readNat bs with
      | none => none
      | some (n, rest) => some (b.toNat - 128 + 128 * n, rest)

/-- `n` elements, each read with `r`. -/
def readMany {α : Type} (r : Reader α) : Nat → Reader (List α)
  | 0 => readPure []
  | n + 1 => readThen r fun a => readThen (readMany r n) fun as => readPure (a :: as)

/-- A sequence: its length and its elements. -/
def readSeq {α : Type} (r : Reader α) : Reader (List α) := readThen readNat fun n => readMany r n

/-- The length that a DECODE_BLOCK operand's shape code stands for: 0 is a whole group of 4 bytes, 1..4 are the lengths
0..3, and a greater code is the length itself (log 1). -/
def groupLenOfCode (k : Nat) : Nat := if k = 0 then 4 else if k ≤ 4 then k - 1 else k

/-- The shape code of a length: the inverse of `groupLenOfCode`. -/
def codeOfGroupLen (n : Nat) : Nat := if n = 4 then 0 else if n < 4 then n + 1 else n

/-- The operand of DECODE_BLOCK: its shape code and its bytes. -/
def readGroup : Reader (List Byte) := readThen readNat fun k => readMany readByte (groupLenOfCode k)

/-- A configuration record: its seven fields in the order of R22. -/
def readConfig : Reader AcqConfig :=
  readThen readNat fun a => readThen readNat fun b => readThen readNat fun c => readThen readNat fun d =>
    readThen readNat fun e => readThen readNat fun f => readThen readNat fun g => readPure ⟨a, b, c, d, e, f, g⟩

/-- The operation map of R99: the reader of the operands of the operation with this code, or none for a code that names
no operation (R104). -/
def operandReader : Nat → Option (Reader Instr)
  | 0x01 => some (readThen readByte fun u => readThen readByte fun l => readPure (.combine u l))
  | 0x02 => some (readThen readWord fun v => readPure (.split v))
  | 0x03 => some (readThen readGroup fun g => readPure (.decodeBlock g))
  | 0x04 => some (readThen (readSeq readByte) fun b => readPure (.decodeStream b))
  | 0x05 => some (readThen readWord fun x => readThen readWord fun y => readPure (.encodeBlock x y))
  | 0x06 =>
    some (readThen (readSeq readWord) fun x => readThen (readSeq readWord) fun y => readPure (.encodeStream x y))
  | 0x10 => some (readThen readConfig fun c => readPure (.buildFrame c))
  | 0x20 => some (readThen readConfig fun c => readPure (.start c))
  | 0x21 => some (readPure .openBus)
  | 0x22 => some (readPure .openSig)
  | 0x23 => some (readPure .frame)
  | 0x24 => some (readPure .cmdXfer)
  | 0x25 => some (readPure .cmdWait)
  | 0x26 => some (readPure .lenXfer)
  | 0x27 => some (readPure .blkWait)
  | 0x28 => some (readPure .blkXfer)
  | 0x29 => some (readPure .closeSig)
  | 0x2A => some (readPure .closeBus)
  | 0x2B => some (readPure .take)
  | 0x30 => some (readThen readConfig fun c => readPure (.runAcquisition c))
  | 0x40 => some (readPure .busOpen)
  | 0x41 => some (readThen readNat fun h => readThen (readSeq readByte) fun out => readPure (.busTransfer h out))
  | 0x42 => some (readThen readNat fun h => readPure (.busClose h))
  | 0x48 => some (readPure .sigOpen)
  | 0x49 => some (readThen readNat fun h => readPure (.sigWait h))
  | 0x4A => some (readThen readNat fun h => readPure (.sigClose h))
  | _ => none

/-- The operation at the head of a byte sequence and the bytes after it. -/
def decode : List Byte → Except DecodeRefusal (Instr × List Byte)
  | [] => .error .noBytes
  | b :: bs =>
    match operandReader b.toNat with
    | none => .error (.unknownOperation b)
    | some r =>
      match r bs with
      | none => .error (.truncatedOperation b)
      | some x => .ok x

/-- The `n` low bytes of `w`, the least significant first: how opcode_table.json numbers an operation's bits. -/
def bytesOfNat : Nat → Nat → List Byte
  | 0, _ => []
  | n + 1, w => BitVec.ofNat 8 w :: bytesOfNat n (w / 256)

/-- The bytes of an operation whose first `nbits` bits are `w` and whose other bits are 0: enough zero bytes follow for
any operation whose operands are all zero (the longest are a code and seven fields). -/
def tableBytes (nbits w : Nat) : List Byte := bytesOfNat ((nbits + 7) / 8) w ++ List.replicate 16 0

/-- The operation the decoder reads from an operation-table word. -/
def decodeTableWord (nbits w : Nat) : Option Instr :=
  match decode (tableBytes nbits w) with
  | .ok (i, _) => some i
  | .error _ => none

/-- The bytes of a u16, low byte first (R65, R96). -/
def wordBytes (v : U16) : List Byte := [BitVec.ofNat 8 v.toNat, BitVec.ofNat 8 (v.toNat / 256)]

/-- The bytes of a natural, with fuel for its 7-bit groups. -/
def natBytesFuel : Nat → Nat → List Byte
  | 0, n => [BitVec.ofNat 8 n]
  | k + 1, n => if n < 128 then [BitVec.ofNat 8 n] else BitVec.ofNat 8 (128 + n % 128) :: natBytesFuel k (n / 128)

/-- The bytes of a natural. -/
def natBytes (n : Nat) : List Byte := natBytesFuel n n

/-- The bytes of a byte sequence with its length before it. -/
def byteSeqBytes (b : List Byte) : List Byte := natBytes b.length ++ b

/-- The bytes of a u16 sequence with its length before it. -/
def wordSeqBytes (c : List U16) : List Byte := natBytes c.length ++ c.flatMap wordBytes

/-- The bytes of a configuration record. -/
def configBytes (c : AcqConfig) : List Byte :=
  natBytes c.randomPhaseChip ++ natBytes c.randomOnTime ++ natBytes c.numCpi ++ natBytes c.numPulse ++
    natBytes c.numChip ++ natBytes c.numCycle ++ natBytes c.priLength

/-- The bytes of an operation's operands. -/
def operandBytes : Instr → List Byte
  | .combine u l => [u, l]
  | .split v => wordBytes v
  | .decodeBlock g => natBytes (codeOfGroupLen g.length) ++ g
  | .decodeStream b => byteSeqBytes b
  | .encodeBlock x y => wordBytes x ++ wordBytes y
  | .encodeStream x y => wordSeqBytes x ++ wordSeqBytes y
  | .buildFrame c => configBytes c
  | .start c => configBytes c
  | .runAcquisition c => configBytes c
  | .busTransfer h out => natBytes h ++ byteSeqBytes out
  | .busClose h => natBytes h
  | .sigWait h => natBytes h
  | .sigClose h => natBytes h
  | .openBus | .openSig | .frame | .cmdXfer | .cmdWait | .lenXfer | .blkWait | .blkXfer | .closeSig | .closeBus | .take
  | .busOpen | .sigOpen => []

/-- The bytes of an operation: its code (R99) and its operands. -/
def encode (i : Instr) : List Byte := i.opCode :: operandBytes i

end Sys2Proof
end

