-- ==== Sys2Proof/Machine/State.lean ====
section
/-! DEFINITION. The state of the APC (spec/10_state.md), as plain data, and the reasons a step can stop.
State holds every register of R20 to R36, the hidden state of the collaborators that R42 names and a wait depends on, the
parameters of R7, and five fields of the model's own for the environment's inputs, the host's operations and the value an
operation returns (INVENTORY.md, "State"). The APC has no addressable memory (R60), so there is no memory here. -/

namespace Sys2Proof.Machine

/-- The sequencer phases of R20. -/
inductive Phase where
  | idle
  | openBus
  | openSig
  | frame
  | cmdXfer
  | cmdWait
  | lenXfer
  | blkWait
  | blkXfer
  | closeSig
  | closeBus
  | done
  | failed
  deriving DecidableEq, Repr

/-- A handle register of R30, R31: NONE, OPEN (holding the handle the collaborator's open returned) or RELEASED. -/
inductive HandleState where
  | none
  | opened (h : Handle)
  | released
  deriving DecidableEq, Repr

/-- The causes of a TransportError (R273), as a collaborator's response names them. -/
inductive TransportCause where
  | noDevice
  | ioFault
  | xferTimeout
  | waitTimeout
  | cancelled
  deriving DecidableEq, Repr

/-- The error kinds of R270 and R271. -/
inductive ErrKind where
  | frameBuildError
  | transportError
  | decodeError
  | codecShapeFault
  deriving DecidableEq, Repr

/-- The causes of R271. -/
inductive Cause where
  | fbRange
  | transport (c : TransportCause)
  | deLenSize
  | deBlkAlign
  | deBlkSize
  | csShape
  deriving DecidableEq, Repr

/-- The "request" a TransportError's info names (R271; the second argument of each `raise` of R183 to R194). -/
inductive RequestSite where
  | busOpen
  | sigOpen
  | cmdXfer
  | cmdWait
  | lenXfer
  | blkWait
  | blkXfer
  | closeSig
  | closeBus
  deriving DecidableEq, Repr

/-- The info of an error record (R271): a field index and value, a request, or a received length. -/
inductive ErrInfo where
  | field (index value : Nat)
  | request (site : RequestSite)
  | length (n : Nat)
  deriving DecidableEq, Repr

/-- An error record (R32, R275). Its kind is its cause's kind (R271; `Cause.kind`), so it is not stored twice (DEDUCED,
log 17, safe). -/
structure ErrRec where
  cause : Cause
  phase : Phase
  blkIdx : Nat
  info : ErrInfo
  deriving DecidableEq, Repr

/-- The host-visible response of R34. -/
inductive SessionOutcome where
  | ok (ch1 ch2 : List (List U16))
  | fail (err : ErrRec) (secErr : List ErrRec)
  deriving DecidableEq, Repr

/-- A response to an open request (R241, R245). -/
inductive OpenResp where
  | ok (h : Handle)
  | fault (c : TransportCause)
  deriving DecidableEq, Repr

/-- A response to a transfer (R242). -/
inductive XferResp where
  | ok (received : List Byte)
  | fault (c : TransportCause)
  deriving DecidableEq, Repr

/-- A response to a wait (R246). -/
inductive WaitResp where
  | active
  | fault (c : TransportCause)
  deriving DecidableEq, Repr

/-- `ok | fault(c)`: a response to a close (R244, R249), and what the trace shows of an open (R36). -/
inductive Ack where
  | ok
  | fault (c : TransportCause)
  deriving DecidableEq, Repr

/-- The events of the trace, in the forms of R36. -/
inductive Event where
  | busOpen (busId deviceId : PlatformId) (clockHz : Nat) (r : Ack)
  | sigOpen (pinId : PlatformId) (r : Ack)
  | xfer (out : List Byte) (r : XferResp)
  | wait (r : WaitResp)
  | sigClose (r : Ack)
  | busClose (r : Ack)
  deriving DecidableEq, Repr

/-- What the environment does (R42, R107, R212): the peripheral sets the ready line's level, or a collaborator responds. -/
inductive EnvEvent where
  | line (level : Bool)
  | busOpen (r : OpenResp)
  | sigOpen (r : OpenResp)
  | xfer (r : XferResp)
  | wait (r : WaitResp)
  | sigClose (r : Ack)
  | busClose (r : Ack)
  deriving DecidableEq, Repr

/-- The six collaborator requests with their operands (R241 to R249). -/
inductive Request where
  | busOpen (busId deviceId : PlatformId) (clockHz : Nat)
  | busTransfer (h : Handle) (out : List Byte)
  | busClose (h : Handle)
  | sigOpen (pinId : PlatformId)
  | sigWait (h : Handle)
  | sigClose (h : Handle)
  deriving DecidableEq, Repr

/-- The value an operation returns to its caller (R106): the model's own, since a codec operation writes no state of the
APC (R120; log 4). -/
inductive Result where
  /-- COMBINE's `value`. -/
  | word (v : U16)
  /-- SPLIT's `(upper, lower)`. -/
  | lanes (upper lower : Byte)
  /-- DECODE_BLOCK's `(sample1, sample2)`. -/
  | samples (sample1 sample2 : U16)
  /-- DECODE_STREAM's `(c1, c2)`. -/
  | channels (c1 c2 : List U16)
  /-- The bytes of ENCODE_BLOCK and ENCODE_STREAM. -/
  | bytes (b : List Byte)
  /-- BUILD_FRAME's frame. -/
  | frame (f : Frame)
  /-- BUILD_FRAME's FrameBuildError(FB_RANGE, (index, value)). -/
  | frameBuildError (index value : Nat)
  /-- TAKE's outcome. -/
  | taken (o : Option SessionOutcome)
  /-- RUN_ACQUISITION's `(channel1, channel2)`. -/
  | acquired (ch1 ch2 : List (List U16))
  /-- RUN_ACQUISITION's failure: its ProtocolError (R198) and, as its result is the taken outcome (R108), the secondary
  errors taken with it. -/
  | protocolError (e : ErrRec) (secErr : List ErrRec)
  deriving DecidableEq, Repr

/-- The codec operations with a shape precondition (R281). -/
inductive ShapedOp where
  | decodeBlock
  | decodeStream
  | encodeStream
  deriving DecidableEq, Repr

/-- The machine's state. `none` of `cfg`, `frame`, `lenWord`, `blkLen` and `rx` is the spec's own value "unwritten"
(R38, R44); `none` of `err` and `outcome` is the spec's `none` (R32, R34). -/
structure State where
  /-- The sequencer phase (R20). -/
  phase : Phase
  /-- The configuration register (R22). -/
  cfg : Option AcqConfig
  /-- The outbound frame register (R23). -/
  frame : Option Frame
  /-- The announced length `len_word` (R24). -/
  lenWord : Option U16
  /-- The block byte length `blk_len` (R25). -/
  blkLen : Option Nat
  /-- The block counter `blk_idx` (R27). -/
  blkIdx : Nat
  /-- The receive buffer (R28). -/
  rx : Option (List Byte)
  /-- Channel 1's sample sets (R29). -/
  ch1 : List (List U16)
  /-- Channel 2's sample sets (R29). -/
  ch2 : List (List U16)
  /-- The bus transport handle register `bus_h` (R30). -/
  busH : HandleState
  /-- The ready-signal handle register `sig_h` (R31). -/
  sigH : HandleState
  /-- The primary error record (R32). -/
  err : Option ErrRec
  /-- The secondary error records `sec_err`, oldest first (R33). -/
  secErr : List ErrRec
  /-- The outcome (R34). -/
  outcome : Option SessionOutcome
  /-- The event trace, oldest first (R36). -/
  trace : List Event
  /-- The level of the ready line, high being active (R42, R246). -/
  readyLine : Bool
  /-- The ready collaborator's detector (R42): whether the condition under which a wait may be answered `active` (R246
  for EDGE, R247 for LEVEL) has held since the latest wait was issued. Only waits start and read it (DEDUCED, log 7, safe). -/
  readySeen : Bool
  /-- The request the SEQ is suspended in, if any: at most one is outstanding (R240, R294;
  DESIGN CHOICE, log 13). -/
  pending : Option Request
  /-- The parameters of R7, fixed by the platform (R313); no operation writes them (log 8). -/
  params : Params
  /-- The model's own: what the environment will do, oldest first (R212; DEDUCED, log 5). -/
  env : List EnvEvent
  /-- The model's own: the bytes of the operations the host has issued and the machine has not fetched (log 2). -/
  port : List Byte
  /-- The model's own: a synchronous `run_acquisition` call is outstanding (R198; log 12). -/
  call : Bool
  /-- The model's own: what the latest value-returning operation returned (log 4). -/
  result : Option Result
  deriving DecidableEq, Repr

/-- Why the machine stops with a fault. -/
inductive Fault where
  /-- CodecShapeFault(operation, operand lengths): raised by a codec operation used outside a session whose operands
  violate its shape precondition; the computation ends with no result (R281, I11). The spec's own stop: safe. -/
  | codecShape (op : ShapedOp) (lengths : List Nat)
  deriving DecidableEq, Repr

/-- Why the machine has no step. -/
inductive Refusal where
  /-- An operation of the table that has no meaning yet: raised by exec's refused arms only. Safe. -/
  | notModelled (mnemonic : String)
  /-- The operation with this mnemonic is not enabled in this phase, so it has no step: START (R182, R210, I14), TAKE
  (R197), RUN_ACQUISITION (through START, R198), the SEQ steps (R100, R101) and the collaborator requests (R241, R242,
  R244 to R246, R249, R253); log 11, log 15. The spec's own stop: safe. -/
  | notEnabled (mnemonic : String) (phase : Phase)
  /-- The host's bytes are no operation (R104, I15; log 16): raised by the fetch. Safe. -/
  | undecodable (e : DecodeRefusal)
  deriving DecidableEq, Repr

/-- The outcome of an operation or a step. -/
abbrev Out := Host.Outcome State Fault Refusal

/-- Power-on reset (R310, R44), with R7's default parameters. The fields `readyLine` and those after it but `pending`
and `params` have no reset value in the spec: the line low, no input and no operation waiting, no call in flight, no value
returned (DESIGN CHOICE, log 18, unsafe). -/
def State.reset : State where
  phase := .idle
  cfg := none
  frame := none
  lenWord := none
  blkLen := none
  blkIdx := 0
  rx := none
  ch1 := []
  ch2 := []
  busH := .none
  sigH := .none
  err := none
  secErr := []
  outcome := none
  trace := []
  readyLine := false
  readySeen := false
  pending := none
  params := Config.defaults
  env := []
  port := []
  call := false
  result := none

end Sys2Proof.Machine
end

