-- ==== Sys2Proof/Machine/Operands.lean ====
section
/-! DEFINITION. Operand assembly and the wire formats (spec/30_encoding.md R90 to R98, spec/40_codec.md): byte lanes and
16-bit values, sample groups and blocks, the command frame and the range check, and the mixed-width views of R68 and R69.
All are pure functions; the operations and the SEQ steps share them. -/

namespace Sys2Proof.Machine

/-- `combine` (R95, R121): `(upper << 8) | lower`, zero-extended. -/
def combine (upper lower : Byte) : U16 := (upper.zeroExtend 16 <<< 8) ||| lower.zeroExtend 16

/-- The upper lane of `split` (R96, R122): `(value >> 8) & 0xFF`. -/
def upperLane (value : U16) : Byte := ((value >>> 8) &&& 0xFF).truncate 8

/-- The lower lane of `split` (R96, R122): `value & 0xFF`. -/
def lowerLane (value : U16) : Byte := (value &&& 0xFF).truncate 8

/-- `split` (R122): `(upper, lower)` in that tuple order. -/
def split (value : U16) : Byte × Byte := (upperLane value, lowerLane value)

/-- A sample group's two samples, channel 1 first (R93, R124): channel 1 from bytes 3 and 2, channel 2 from bytes 1
and 0. -/
def groupSamples (g0 g1 g2 g3 : Byte) : U16 × U16 := (combine g3 g2, combine g1 g0)

/-- DECODE_BLOCK's result (R124), or none where the length is not 4. -/
def decodeBlock : List Byte → Option (U16 × U16)
  | [g0, g1, g2, g3] => some (groupSamples g0 g1 g2 g3)
  | _ => none

/-- The sample pairs of the whole groups of a buffer, in order (R70, R125); bytes after the last whole group give none. -/
def groupsOf : List Byte → List (U16 × U16)
  | g0 :: g1 :: g2 :: g3 :: rest => groupSamples g0 g1 g2 g3 :: groupsOf rest
  | _ => []

/-- The two channel sequences of a buffer of whole groups (R125). -/
def channelsOf (b : List Byte) : List U16 × List U16 := ((groupsOf b).map Prod.fst, (groupsOf b).map Prod.snd)

/-- DECODE_STREAM's result (R125), or none where the length is not a multiple of 4; the check comes first, so there is
no partial result. -/
def decodeStream (b : List Byte) : Option (List U16 × List U16) :=
  if b.length % Config.groupLen = 0 then some (channelsOf b) else none

/-- ENCODE_BLOCK's result (R126): `[l2, u2, l1, u1]`. -/
def encodeBlock (sample1 sample2 : U16) : List Byte :=
  [lowerLane sample2, upperLane sample2, lowerLane sample1, upperLane sample1]

/-- The groups of two sequences, in order (R127). -/
def groupBytes : List U16 → List U16 → List Byte
  | s1 :: c1, s2 :: c2 => encodeBlock s1 s2 ++ groupBytes c1 c2
  | _, _ => []

/-- ENCODE_STREAM's result (R127), or none where the sequences differ in length. -/
def encodeStream (c1 c2 : List U16) : Option (List Byte) :=
  if c1.length = c2.length then some (groupBytes c1 c2) else none

/-- `blk_len = 4 × L` (R97, R188). -/
def blockBytes (len : U16) : Nat := Config.lenScale * len.toNat

/-- `zeros(n)` (R9): W-BLKQ's payload (R94). -/
def zeros (n : Nat) : List Byte := List.replicate n Config.blockFill

/-- W-LENQ's payload: `HANDSHAKE_FILL` (R92). -/
def handshakeBytes (p : Params) : List Byte := [p.handshakeFill.1, p.handshakeFill.2]

/-- The fields of a configuration record in frame order, each with its frame index and the greatest value its width holds
(R161, R162). -/
def fieldLimits (c : AcqConfig) : List (Nat × Nat × Nat) :=
  [(0, c.randomPhaseChip, 255), (1, c.randomOnTime, 255), (2, c.numCpi, 255), (3, c.numPulse, 255),
   (4, c.numChip, 255), (5, c.numCycle, 255), (6, c.priLength, 65535)]

/-- The first field in frame order that exceeds its width, with its index and value (R162). -/
def firstOutOfRange (c : AcqConfig) : Option (Nat × Nat) :=
  ((fieldLimits c).find? fun f => f.2.2 < f.2.1).map fun f => (f.1, f.2.1)

/-- The frame of a record (R91, R164): field `j` in byte `j`, then `pri_length` low byte first. A field is reduced to its
width's low bits, which changes it only where TRUNCATE lets an out-of-range field through (R163). -/
def assembleFrame (c : AcqConfig) : Frame :=
  let p := split (BitVec.ofNat 16 c.priLength)
  #v[BitVec.ofNat 8 c.randomPhaseChip, BitVec.ofNat 8 c.randomOnTime, BitVec.ofNat 8 c.numCpi,
     BitVec.ofNat 8 c.numPulse, BitVec.ofNat 8 c.numChip, BitVec.ofNat 8 c.numCycle, p.2, p.1]

/-- BUILD_FRAME (R160): the frame, or the index and value of the field FrameBuildError reports. -/
def buildFrame (policy : RangePolicy) (c : AcqConfig) : Except (Nat × Nat) Frame :=
  match policy with
  | .truncate => .ok (assembleFrame c)
  | .validate =>
    match firstOutOfRange c with
    | some bad => .error bad
    | none => .ok (assembleFrame c)

/-- Bytes read as one little-endian number: the first byte is the least significant (R68, R69). -/
def littleEndian : List Byte → Nat
  | [] => 0
  | b :: bs => b.toNat + 256 * littleEndian bs

/-- The handle a request carries: the one its register holds (R240). -/
def HandleState.handle : HandleState → Handle
  | .opened h => h
  | .none => Config.unheldHandle
  | .released => Config.unheldHandle

/-- Whether the register holds a handle: `bus_h = OPEN`, `sig_h = OPEN` (R193, R194). -/
def HandleState.isOpen : HandleState → Bool
  | .opened _ => true
  | .none => false
  | .released => false

/-- What the trace shows of an open's response (R36). -/
def OpenResp.ack : OpenResp → Ack
  | .ok _ => .ok
  | .fault c => .fault c

end Sys2Proof.Machine
end

