-- ==== Sys2Proof/Machine/Flags.lean ====
section
/-! DEFINITION. The status indications and the numeric codes. The APC has no condition codes and no operation sets a flag
(spec/10_state.md R35): its status is derived from the phase, its control and status view from the registers (R39), and
its observable behaviour is the trace and the outcome (R36). The codes are those of spec/60_exceptions.md R271. -/

namespace Sys2Proof.Machine

/-- `done` of R35. -/
def State.isDone (s : State) : Bool := s.phase == .done

/-- `failed` of R35. -/
def State.isFailed (s : State) : Bool := s.phase == .failed

/-- `busy` of R35: the phase is none of IDLE, DONE, FAILED. -/
def State.isBusy (s : State) : Bool := !(s.phase == .idle || s.isDone || s.isFailed)

/-- The logical control view of R39. -/
def State.control (s : State) : Option AcqConfig := s.cfg

/-- The logical status view of R39. -/
def State.status (s : State) : Phase × Option ErrRec × List ErrRec × Option SessionOutcome :=
  (s.phase, s.err, s.secErr, s.outcome)

/-- The observable behaviour of R36. -/
def State.observed (s : State) : List Event × Option SessionOutcome := (s.trace, s.outcome)

/-- The kind of a cause (R271). -/
def Cause.kind : Cause → ErrKind
  | .fbRange => .frameBuildError
  | .transport _ => .transportError
  | .deLenSize => .decodeError
  | .deBlkAlign => .decodeError
  | .deBlkSize => .decodeError
  | .csShape => .codecShapeFault

/-- The kind of an error record (R32). -/
def ErrRec.kind (e : ErrRec) : ErrKind := e.cause.kind

/-- The kind codes of R271. -/
def ErrKind.code : ErrKind → Nat
  | .frameBuildError => 1
  | .transportError => 2
  | .decodeError => 3
  | .codecShapeFault => 4

/-- The codes of the TransportError causes (R271). -/
def TransportCause.code : TransportCause → Nat
  | .noDevice => 0x21
  | .ioFault => 0x22
  | .xferTimeout => 0x23
  | .waitTimeout => 0x24
  | .cancelled => 0x25

/-- The cause codes of R271. -/
def Cause.code : Cause → Nat
  | .fbRange => 0x11
  | .transport c => c.code
  | .deLenSize => 0x31
  | .deBlkAlign => 0x32
  | .deBlkSize => 0x33
  | .csShape => 0x41

/-- The cause of the machine's one fault (R271, R281). -/
def Fault.cause : Fault → Cause
  | .codecShape _ _ => .csShape

end Sys2Proof.Machine
end

