-- ==== Sys2Proof/Machine/Ops.lean ====
section
/-! DEFINITION. The operations the meanings share: small updates of State, the collaborator request `Call` with its
`Emit` (spec/00_scope.md R11, spec/43_io_primitives.md), the error entry, and the ways a session ends
(spec/60_exceptions.md R276 to R285).
A request and its response are one atomic step (R6, R74). Where the environment gives no response, the step leaves the
machine suspended with the request outstanding (R294, R295), and the next step waits on. -/

namespace Sys2Proof.Machine

/-! ### Register updates -/

/-- `phase <- p` (R11). -/
def State.goto (s : State) (p : Phase) : State := { s with phase := p }

/-- The operation returns `r` to its caller (log 4). -/
def State.answer (s : State) (r : Result) : State := { s with result := some r }

/-- `Emit(e)` (R11, R36). -/
def State.emit (s : State) (e : Event) : State := { s with trace := s.trace ++ [e] }

/-- The ready line's level, the ready collaborator's detector and the environment's remaining events. -/
def State.hear (s : State) (line seen : Bool) (rest : List EnvEvent) : State :=
  { s with readyLine := line, readySeen := seen, env := rest }

/-- No request is outstanding any more. -/
def State.settle (s : State) : State := { s with pending := none }

/-- `rx <- b`. -/
def State.receive (s : State) (b : List Byte) : State := { s with rx := some b }

/-- `bus_h <- h`. -/
def State.setBus (s : State) (h : HandleState) : State := { s with busH := h }

/-- `sig_h <- h`. -/
def State.setSig (s : State) (h : HandleState) : State := { s with sigH := h }

/-- `cfg` as a step reads it; an unwritten one is never read (R38; log 9). -/
def State.config (s : State) : AcqConfig := s.cfg.getD Config.unwrittenCfg

/-- `frame` as CMD_XFER reads it; an unwritten one is never read (R38; log 9). -/
def State.frameBytes (s : State) : List Byte := (s.frame.getD Config.unwrittenFrame).toList

/-- `blk_len` as BLK_XFER reads it; an unwritten one is never read (R38; log 9). -/
def State.blockLen (s : State) : Nat := s.blkLen.getD Config.unwrittenBlkLen

/-! ### The error entry and the ends of a session -/

/-- The record of an error raised now (R275). -/
def State.errRec (s : State) (c : Cause) (info : ErrInfo) : ErrRec := ⟨c, s.phase, s.blkIdx, info⟩

/-- Record an error: as the session's where there is none yet, else as a secondary one (R277, R285). -/
def State.recordErr (s : State) (c : Cause) (info : ErrInfo) : State :=
  match s.err with
  | none => { s with err := some (s.errRec c info) }
  | some _ => { s with secErr := s.secErr ++ [s.errRec c info] }

/-- THE ERROR ENTRY (R276, R277), which ends the step that raises: record the error and go to CLOSE_SIG. -/
def State.raise (s : State) (c : Cause) (info : ErrInfo) : State := (s.recordErr c info).goto .closeSig

/-- The end of a session (R194 to R196, R283): DONE with both channels where there is no error, else FAILED with the
errors and no channel data. There is no return from an error other than this (R284). -/
def State.finish (s : State) : State :=
  match s.err with
  | none => { s with phase := .done, outcome := some (.ok s.ch1 s.ch2) }
  | some e => { s with phase := .failed, outcome := some (.fail e s.secErr) }

/-! ### Collaborator requests -/

/-- Whether a request is a wait for the ready line. -/
def Request.isWait : Request → Bool
  | .sigWait _ => true
  | .busOpen _ _ _ | .busTransfer _ _ | .busClose _ | .sigOpen _ | .sigClose _ => false

/-- The ready collaborator's detector when a wait begins: under LEVEL a line that is high already completes it (R247),
under EDGE only a later transition does (R246). -/
def State.seenAtIssue (s : State) : Bool := s.params.readySense == .level && s.readyLine

/-- Issue a request, unless it is the one already outstanding. A wait starts the ready collaborator's detector anew; no
other request touches it. -/
def State.issue (s : State) (req : Request) : State :=
  if s.pending = some req then s
  else { s with pending := some req, readySeen := if req.isWait then s.seenAtIssue else s.readySeen }

/-- The ready line's level after an event. -/
def lineAfter (line : Bool) : EnvEvent → Bool
  | .line level => level
  | .busOpen _ | .sigOpen _ | .xfer _ | .wait _ | .sigClose _ | .busClose _ => line

/-- The detector after an event: a transition from low to high sets it (R246). -/
def seenAfter (line seen : Bool) : EnvEvent → Bool
  | .line level => seen || (level && !line)
  | .busOpen _ | .sigOpen _ | .xfer _ | .wait _ | .sigClose _ | .busClose _ => seen

/-- What became of a request: a response, with the line, the detector and the events after it; or none yet. -/
inductive Awaited (α : Type) where
  | answered (r : α) (line seen : Bool) (rest : List EnvEvent)
  | suspended (line seen : Bool)
  deriving Repr

/-- Wait for the first event that is a response the request allows (`pick`). The line's changes are followed; any other
event is no response to this request and is passed over (R240; log 6). -/
def await {α : Type} (pick : Bool → EnvEvent → Option α) : Bool → Bool → List EnvEvent → Awaited α
  | line, seen, [] => .suspended line seen
  | line, seen, e :: es =>
    match pick seen e with
    | some r => .answered r line seen es
    | none => await pick (lineAfter line e) (seenAfter line seen e) es

/-- `Call(req)` and `Emit` (R11, R240): issue the request and wait; on a response `r` append its event to the trace and go
on with `k r`; without one stay suspended. -/
def State.request {α : Type} (s : State) (req : Request) (pick : Bool → EnvEvent → Option α) (event : α → Event)
    (k : α → State → State) : State :=
  let t := s.issue req
  match await pick t.readyLine t.readySeen t.env with
  | .suspended line seen => t.hear line seen []
  | .answered r line seen rest => k r (((t.hear line seen rest).settle).emit (event r))

/-- The faults an open may report (R241, R245). -/
def openFaults : TransportCause → Bool
  | .noDevice | .ioFault => true
  | .xferTimeout | .waitTimeout | .cancelled => false

/-- The faults a transfer may report (R242, R250). -/
def xferFaults (p : Params) : TransportCause → Bool
  | .ioFault => true
  | .xferTimeout => p.xferTimeout.isSome
  | .cancelled => p.cancellable
  | .noDevice | .waitTimeout => false

/-- The faults a wait may report (R246, R248, R250). -/
def waitFaults (p : Params) : TransportCause → Bool
  | .ioFault => true
  | .waitTimeout => p.readyTimeout.isSome
  | .cancelled => p.cancellable
  | .noDevice | .xferTimeout => false

/-- The faults a close may report (R244, R249). -/
def closeFaults : TransportCause → Bool
  | .ioFault => true
  | .noDevice | .xferTimeout | .waitTimeout | .cancelled => false

/-- The response of an open that its contract allows. -/
def allowOpen : OpenResp → Option OpenResp
  | .ok h => some (.ok h)
  | .fault c => if openFaults c then some (.fault c) else none

/-- The response of a transfer that its contract allows: any bytes of any length (R243). -/
def allowXfer (p : Params) : XferResp → Option XferResp
  | .ok b => some (.ok b)
  | .fault c => if xferFaults p c then some (.fault c) else none

/-- The response of a wait that its contract allows: `active` only when the detector has seen the line (R246, R247). -/
def allowWait (p : Params) (seen : Bool) : WaitResp → Option WaitResp
  | .active => if seen then some .active else none
  | .fault c => if waitFaults p c then some (.fault c) else none

/-- The response of a close that its contract allows. -/
def allowClose : Ack → Option Ack
  | .ok => some .ok
  | .fault c => if closeFaults c then some (.fault c) else none

/-- The responses to BUS_OPEN. -/
def pickBusOpen (_seen : Bool) : EnvEvent → Option OpenResp
  | .busOpen r => allowOpen r
  | .line _ | .sigOpen _ | .xfer _ | .wait _ | .sigClose _ | .busClose _ => none

/-- The responses to SIG_OPEN. -/
def pickSigOpen (_seen : Bool) : EnvEvent → Option OpenResp
  | .sigOpen r => allowOpen r
  | .line _ | .busOpen _ | .xfer _ | .wait _ | .sigClose _ | .busClose _ => none

/-- The responses to BUS_TRANSFER. -/
def pickXfer (p : Params) (_seen : Bool) : EnvEvent → Option XferResp
  | .xfer r => allowXfer p r
  | .line _ | .busOpen _ | .sigOpen _ | .wait _ | .sigClose _ | .busClose _ => none

/-- The responses to SIG_WAIT. -/
def pickWait (p : Params) (seen : Bool) : EnvEvent → Option WaitResp
  | .wait r => allowWait p seen r
  | .line _ | .busOpen _ | .sigOpen _ | .xfer _ | .sigClose _ | .busClose _ => none

/-- The responses to SIG_CLOSE. -/
def pickSigClose (_seen : Bool) : EnvEvent → Option Ack
  | .sigClose r => allowClose r
  | .line _ | .busOpen _ | .sigOpen _ | .xfer _ | .wait _ | .busClose _ => none

/-- The responses to BUS_CLOSE. -/
def pickBusClose (_seen : Bool) : EnvEvent → Option Ack
  | .busClose r => allowClose r
  | .line _ | .busOpen _ | .sigOpen _ | .xfer _ | .wait _ | .sigClose _ => none

/-- `Call(BUS_OPEN, BUS_ID, DEVICE_ID, CLOCK_HZ)` (R241). -/
def State.callBusOpen (s : State) (k : OpenResp → State → State) : State :=
  s.request (.busOpen s.params.busId s.params.deviceId s.params.clockHz) pickBusOpen
    (fun r => .busOpen s.params.busId s.params.deviceId s.params.clockHz r.ack) k

/-- `Call(SIG_OPEN, PIN_ID)` (R245). -/
def State.callSigOpen (s : State) (k : OpenResp → State → State) : State :=
  s.request (.sigOpen s.params.pinId) pickSigOpen (fun r => .sigOpen s.params.pinId r.ack) k

/-- `Call(BUS_TRANSFER, out)` on a handle (R242). -/
def State.callTransfer (s : State) (h : Handle) (out : List Byte) (k : XferResp → State → State) : State :=
  s.request (.busTransfer h out) (pickXfer s.params) (.xfer out) k

/-- `Call(SIG_WAIT)` on a handle (R246). -/
def State.callWait (s : State) (h : Handle) (k : WaitResp → State → State) : State :=
  s.request (.sigWait h) (pickWait s.params) .wait k

/-- `Call(SIG_CLOSE)` on a handle (R249). -/
def State.callSigClose (s : State) (h : Handle) (k : Ack → State → State) : State :=
  s.request (.sigClose h) pickSigClose .sigClose k

/-- `Call(BUS_CLOSE)` on a handle (R244). -/
def State.callBusClose (s : State) (h : Handle) (k : Ack → State → State) : State :=
  s.request (.busClose h) pickBusClose .busClose k

end Sys2Proof.Machine
end

