-- ==== Sys2Proof/Machine/Codec.lean ====
section
/-! DEFINITION. The CODEC operations used on their own (spec/40_codec.md): pure functions of their operands that return
their result and write no state of the APC (R120). Operands of the wrong shape are a CodecShapeFault, which ends the
computation (spec/60_exceptions.md R281). -/

namespace Sys2Proof.Machine

/-- COMBINE (R121). -/
def execCombine (upper lower : Byte) (s : State) : Out := .next (s.answer (.word (combine upper lower)))

/-- SPLIT (R122). -/
def execSplit (value : U16) (s : State) : Out := .next (s.answer (.lanes (split value).1 (split value).2))

/-- DECODE_BLOCK (R124). -/
def execDecodeBlock (g : List Byte) (s : State) : Out :=
  match decodeBlock g with
  | some (sample1, sample2) => .next (s.answer (.samples sample1 sample2))
  | none => .fault (.codecShape .decodeBlock [g.length])

/-- DECODE_STREAM (R125). -/
def execDecodeStream (b : List Byte) (s : State) : Out :=
  match decodeStream b with
  | some (c1, c2) => .next (s.answer (.channels c1 c2))
  | none => .fault (.codecShape .decodeStream [b.length])

/-- ENCODE_BLOCK (R126). -/
def execEncodeBlock (sample1 sample2 : U16) (s : State) : Out :=
  .next (s.answer (.bytes (encodeBlock sample1 sample2)))

/-- ENCODE_STREAM (R127). -/
def execEncodeStream (c1 c2 : List U16) (s : State) : Out :=
  match encodeStream c1 c2 with
  | some b => .next (s.answer (.bytes b))
  | none => .fault (.codecShape .encodeStream [c1.length, c2.length])

end Sys2Proof.Machine
end

