-- ==== Sys2Proof/Machine/Framer.lean ====
section
/-! DEFINITION. The FRAMER operation used on its own (spec/41_framer.md R160): a pure function of the configuration record
and FRAME_RANGE_POLICY. -/

namespace Sys2Proof.Machine

/-- BUILD_FRAME (R160): returns the frame, or the FrameBuildError, which R160 gives as the operation's other result; it
is no stop and, outside a session, no error record (DEDUCED, log 14, unsafe). -/
def execBuildFrame (c : AcqConfig) (s : State) : Out :=
  match buildFrame s.params.frameRangePolicy c with
  | .ok f => .next (s.answer (.frame f))
  | .error (index, value) => .next (s.answer (.frameBuildError index value))

end Sys2Proof.Machine
end

