-- ==== Sys2Proof/Machine/Sequencer.lean ====
section
/-! DEFINITION. The SEQ steps (spec/42_controller.md R183 to R194). Each is enabled in the phase of its name alone (R101);
elsewhere it has no step and is refused by name (log 15). A step that a collaborator does not answer leaves the machine
suspended in its phase (R295). -/

namespace Sys2Proof.Machine

/-- A SEQ step: `f` in its phase, no step elsewhere (R100, R101). -/
def seqStep (p : Phase) (mnemonic : String) (f : State → State) (s : State) : Out :=
  if s.phase = p then .next (f s) else .refused (.notEnabled mnemonic s.phase)

/-- The phase the SEQ goes to when the block loop is entered or continued: BLK_WAIT while `blk_idx < num_cpi`, else
CLOSE_SIG (R189, R192). -/
def loopPhase (s : State) : Phase := if s.blkIdx < s.config.numCpi then .blkWait else .closeSig

/-- OPEN_BUS's step (R183). -/
def openBusStep (s : State) : State :=
  s.callBusOpen fun r t =>
    match r with
    | .fault c => t.raise (.transport c) (.request .busOpen)
    | .ok h => (t.setBus (.opened h)).goto .openSig

/-- OPEN_BUS (R183). -/
def execOpenBus (s : State) : Out := seqStep .openBus "OPEN_BUS" openBusStep s

/-- OPEN_SIG's step (R184). -/
def openSigStep (s : State) : State :=
  s.callSigOpen fun r t =>
    match r with
    | .fault c => t.raise (.transport c) (.request .sigOpen)
    | .ok h => (t.setSig (.opened h)).goto .frame

/-- OPEN_SIG (R184). -/
def execOpenSig (s : State) : Out := seqStep .openSig "OPEN_SIG" openSigStep s

/-- FRAME's step (R185): no request and no event. -/
def frameStep (s : State) : State :=
  match buildFrame s.params.frameRangePolicy s.config with
  | .error (index, value) => s.raise .fbRange (.field index value)
  | .ok f => { s with frame := some f, phase := .cmdXfer }

/-- FRAME (R185). -/
def execFrame (s : State) : Out := seqStep .frame "FRAME" frameStep s

/-- CMD_XFER's step (R186): the received bytes are discarded, whatever their length. -/
def cmdXferStep (s : State) : State :=
  s.callTransfer s.busH.handle s.frameBytes fun r t =>
    match r with
    | .fault c => t.raise (.transport c) (.request .cmdXfer)
    | .ok _ => t.goto .cmdWait

/-- CMD_XFER (R186). -/
def execCmdXfer (s : State) : Out := seqStep .cmdXfer "CMD_XFER" cmdXferStep s

/-- CMD_WAIT's step (R187). -/
def cmdWaitStep (s : State) : State :=
  s.callWait s.sigH.handle fun r t =>
    match r with
    | .fault c => t.raise (.transport c) (.request .cmdWait)
    | .active => t.goto .lenXfer

/-- CMD_WAIT (R187). -/
def execCmdWait (s : State) : Out := seqStep .cmdWait "CMD_WAIT" cmdWaitStep s

/-- What LEN_XFER does with the bytes it received (R188): `rx` holds them; two bytes give the announced length, any other
number is DecodeError(DE_LEN_SIZE). R189 tests `num_cpi > 0`. -/
def lenReceived (b : List Byte) (s : State) : State :=
  match b with
  | [b0, b1] =>
    { s with
      rx := some b
      lenWord := some (combine b1 b0)
      blkLen := some (blockBytes (combine b1 b0))
      phase := if 0 < s.config.numCpi then .blkWait else .closeSig }
  | _ => (s.receive b).raise .deLenSize (.length b.length)

/-- LEN_XFER's step (R188). -/
def lenXferStep (s : State) : State :=
  s.callTransfer s.busH.handle (handshakeBytes s.params) fun r t =>
    match r with
    | .fault c => t.raise (.transport c) (.request .lenXfer)
    | .ok b => lenReceived b t

/-- LEN_XFER (R188). -/
def execLenXfer (s : State) : Out := seqStep .lenXfer "LEN_XFER" lenXferStep s

/-- BLK_WAIT's step (R190). -/
def blkWaitStep (s : State) : State :=
  s.callWait s.sigH.handle fun r t =>
    match r with
    | .fault c => t.raise (.transport c) (.request .blkWait)
    | .active => t.goto .blkXfer

/-- BLK_WAIT (R190). -/
def execBlkWait (s : State) : Out := seqStep .blkWait "BLK_WAIT" blkWaitStep s

/-- Append one sample set to each channel and count the block (R191). -/
def State.appendBlock (s : State) (sets : List U16 × List U16) : State :=
  { s with ch1 := s.ch1 ++ [sets.1], ch2 := s.ch2 ++ [sets.2], blkIdx := s.blkIdx + 1 }

/-- What BLK_XFER does with the bytes it received (R191, R279): `rx` holds them; the alignment check, then the size
check, then one sample set a channel and the loop test on the new count (R192). -/
def blkReceived (b : List Byte) (s : State) : State :=
  if b.length % Config.groupLen ≠ 0 then (s.receive b).raise .deBlkAlign (.length b.length)
  else if b.length ≠ s.blockLen then (s.receive b).raise .deBlkSize (.length b.length)
  else
    let t := (s.receive b).appendBlock (channelsOf b)
    t.goto (loopPhase t)

/-- BLK_XFER's step (R191). -/
def blkXferStep (s : State) : State :=
  s.callTransfer s.busH.handle (zeros s.blockLen) fun r t =>
    match r with
    | .fault c => t.raise (.transport c) (.request .blkXfer)
    | .ok b => blkReceived b t

/-- BLK_XFER (R191). -/
def execBlkXfer (s : State) : Out := seqStep .blkXfer "BLK_XFER" blkXferStep s

/-- What a close's response records (R193, R285): nothing for `ok`, a close fault else; nothing propagates. -/
def State.closeResponse (s : State) (r : Ack) (site : RequestSite) : State :=
  match r with
  | .ok => s
  | .fault c => s.recordErr (.transport c) (.request site)

/-- CLOSE_SIG's step (R193): an open handle is released whatever the response. -/
def closeSigStep (s : State) : State :=
  if s.sigH.isOpen then
    s.callSigClose s.sigH.handle fun r t => ((t.setSig .released).closeResponse r .closeSig).goto .closeBus
  else s.goto .closeBus

/-- CLOSE_SIG (R193). -/
def execCloseSig (s : State) : Out := seqStep .closeSig "CLOSE_SIG" closeSigStep s

/-- CLOSE_BUS's step (R194): an open handle is released whatever the response, and the session ends. -/
def closeBusStep (s : State) : State :=
  if s.busH.isOpen then
    s.callBusClose s.busH.handle fun r t => ((t.setBus .released).closeResponse r .closeBus).finish
  else s.finish

/-- CLOSE_BUS (R194). -/
def execCloseBus (s : State) : Out := seqStep .closeBus "CLOSE_BUS" closeBusStep s

end Sys2Proof.Machine
end

