-- ==== Sys2Proof/Machine/Requests.lean ====
section
/-! DEFINITION. The six collaborator requests as operations (spec/43_io_primitives.md R241 to R249). A request is issued
only by the SEQ step of its phase, with that step's operands, and by nothing else: the host has no such operation (R253).
A request, its response and what the SEQ does with it are one atomic step (R6, R74, R240), so the operation is that step,
and the machine runs it whenever it runs the step. In a state whose step does not issue the request it has no step and is
refused by name (DEDUCED, log 11, safe). -/

namespace Sys2Proof.Machine

/-- The request the phase's step issues, with its operands (R183 to R194), if it issues one. -/
def requestOfPhase (s : State) : Option Request :=
  match s.phase with
  | .openBus => some (.busOpen s.params.busId s.params.deviceId s.params.clockHz)
  | .openSig => some (.sigOpen s.params.pinId)
  | .cmdXfer => some (.busTransfer s.busH.handle s.frameBytes)
  | .lenXfer => some (.busTransfer s.busH.handle (handshakeBytes s.params))
  | .blkXfer => some (.busTransfer s.busH.handle (zeros s.blockLen))
  | .cmdWait | .blkWait => some (.sigWait s.sigH.handle)
  | .closeSig => if s.sigH.isOpen then some (.sigClose s.sigH.handle) else none
  | .closeBus => if s.busH.isOpen then some (.busClose s.busH.handle) else none
  | .frame | .idle | .done | .failed => none

/-- A request with its operands: the step that issues it where the phase's step issues exactly that request, no step
elsewhere. -/
def issuedRequest (req : Request) (mnemonic : String) (f : State → State) (s : State) : Out :=
  if requestOfPhase s = some req then .next (f s) else .refused (.notEnabled mnemonic s.phase)

/-- The transfer of a phase: CMD_XFER's, LEN_XFER's or BLK_XFER's (R242). -/
def transferStep (s : State) : State :=
  match s.phase with
  | .lenXfer => lenXferStep s
  | .blkXfer => blkXferStep s
  | .cmdXfer | .idle | .openBus | .openSig | .frame | .cmdWait | .blkWait | .closeSig | .closeBus | .done | .failed =>
    cmdXferStep s

/-- The wait of a phase: CMD_WAIT's or BLK_WAIT's (R246). -/
def waitStep (s : State) : State :=
  match s.phase with
  | .blkWait => blkWaitStep s
  | .cmdWait | .idle | .openBus | .openSig | .frame | .cmdXfer | .lenXfer | .blkXfer | .closeSig | .closeBus | .done
  | .failed => cmdWaitStep s

/-- BUS_OPEN: issued only by OPEN_BUS (R241). On `ok` the SEQ owns the handle. -/
def execBusOpen (s : State) : Out := seqStep .openBus "BUS_OPEN" openBusStep s

/-- BUS_TRANSFER: issued only by CMD_XFER, LEN_XFER and BLK_XFER, on the open bus handle with the phase's bytes (R242,
R243). -/
def execBusTransfer (h : Handle) (out : List Byte) (s : State) : Out :=
  issuedRequest (.busTransfer h out) "BUS_TRANSFER" transferStep s

/-- BUS_CLOSE: issued only by CLOSE_BUS, only on the handle that `bus_h` holds open, which it releases (R244). -/
def execBusClose (h : Handle) (s : State) : Out := issuedRequest (.busClose h) "BUS_CLOSE" closeBusStep s

/-- SIG_OPEN: issued only by OPEN_SIG (R245). -/
def execSigOpen (s : State) : Out := seqStep .openSig "SIG_OPEN" openSigStep s

/-- SIG_WAIT: issued only by CMD_WAIT and BLK_WAIT, on the open signal handle (R246, R247, R248). -/
def execSigWait (h : Handle) (s : State) : Out := issuedRequest (.sigWait h) "SIG_WAIT" waitStep s

/-- SIG_CLOSE: issued only by CLOSE_SIG, only on the handle that `sig_h` holds open, which it releases (R249). -/
def execSigClose (h : Handle) (s : State) : Out := issuedRequest (.sigClose h) "SIG_CLOSE" closeSigStep s

end Sys2Proof.Machine
end

