-- ==== Sys2Proof/Machine/Session.lean ====
section
/-! DEFINITION. The host's actions at the Session API (spec/42_controller.md R182, R197, R198). -/

namespace Sys2Proof.Machine

/-- START's writes (R182, R311): `cfg` is the host's record, every other register of 10_state.md has its reset value. No
request is outstanding and no `run_acquisition` call is in flight when a session begins (DEDUCED from R43 and R240,
log 20, safe). -/
def State.startSession (s : State) (c : AcqConfig) : State :=
  { s with
    phase := .openBus
    cfg := some c
    frame := none
    lenWord := none
    blkLen := none
    blkIdx := 0
    rx := none
    ch1 := []
    ch2 := []
    busH := .none
    sigH := .none
    err := none
    secErr := []
    outcome := none
    trace := []
    pending := none
    call := false }

/-- START (R182): in IDLE alone; elsewhere it has no step (R210, I14). -/
def execStart (c : AcqConfig) (s : State) : Out :=
  if s.phase = .idle then .next (s.startSession c) else .refused (.notEnabled "START" s.phase)

/-- What the host receives (R108, R197, R198): TAKE returns the outcome; where the TAKE is that of `run_acquisition`, the
call's result is the taken outcome: it returns the two channels, or fails with the session's ProtocolError, the secondary
errors beside it (DEDUCED, log 12). In DONE and FAILED there is always an outcome (R34);
without one TAKE returns none (log 21). -/
def returnedBy (call : Bool) (o : Option SessionOutcome) : Result :=
  match call, o with
  | true, some (.ok ch1 ch2) => .acquired ch1 ch2
  | true, some (.fail e es) => .protocolError e es
  | true, none => .taken none
  | false, o => .taken o

/-- TAKE's step (R197): return the outcome and go to IDLE; the other registers keep their values, `outcome` among them,
though R37's table names TAKE beside those that write it: R197 and R34 are followed (DESIGN CHOICE, log 26, unsafe). -/
def State.takeOutcome (s : State) : State :=
  { s with phase := .idle, result := some (returnedBy s.call s.outcome), call := false }

/-- TAKE (R197): in DONE and FAILED alone. -/
def execTake (s : State) : Out :=
  if s.phase = .done ∨ s.phase = .failed then .next s.takeOutcome else .refused (.notEnabled "TAKE" s.phase)

/-- RUN_ACQUISITION (R198, R108): START, and the call stays outstanding: the SEQ steps the phase selects follow one by
one, and in DONE or FAILED the machine's next step is the call's TAKE (`nextOperation`; DEDUCED, log 12, safe). It is
enabled where its START is. -/
def execRunAcquisition (c : AcqConfig) (s : State) : Out :=
  if s.phase = .idle then .next { s.startSession c with call := true }
  else .refused (.notEnabled "RUN_ACQUISITION" s.phase)

end Sys2Proof.Machine
end

