-- ==== Sys2Proof/Machine/Dispatch.lean ====
section
/-! DEFINITION. The dispatch of an operation to its meaning: one arm per row of spec/opcode_table.json. -/

namespace Sys2Proof.Machine

def exec (i : Instr) (s : State) : Host.Outcome State Fault Refusal :=
  match i with
  | .combine u l => Sys2Proof.Machine.execCombine u l s
  | .split v => Sys2Proof.Machine.execSplit v s
  | .decodeBlock g => Sys2Proof.Machine.execDecodeBlock g s
  | .decodeStream b => Sys2Proof.Machine.execDecodeStream b s
  | .encodeBlock x y => Sys2Proof.Machine.execEncodeBlock x y s
  | .encodeStream x y => Sys2Proof.Machine.execEncodeStream x y s
  | .buildFrame c => Sys2Proof.Machine.execBuildFrame c s
  | .start c => Sys2Proof.Machine.execStart c s
  | .openBus => Sys2Proof.Machine.execOpenBus s
  | .openSig => Sys2Proof.Machine.execOpenSig s
  | .frame => Sys2Proof.Machine.execFrame s
  | .cmdXfer => Sys2Proof.Machine.execCmdXfer s
  | .cmdWait => Sys2Proof.Machine.execCmdWait s
  | .lenXfer => Sys2Proof.Machine.execLenXfer s
  | .blkWait => Sys2Proof.Machine.execBlkWait s
  | .blkXfer => Sys2Proof.Machine.execBlkXfer s
  | .closeSig => Sys2Proof.Machine.execCloseSig s
  | .closeBus => Sys2Proof.Machine.execCloseBus s
  | .take => Sys2Proof.Machine.execTake s
  | .runAcquisition c => Sys2Proof.Machine.execRunAcquisition c s
  | .busOpen => Sys2Proof.Machine.execBusOpen s
  | .busTransfer h out => Sys2Proof.Machine.execBusTransfer h out s
  | .busClose h => Sys2Proof.Machine.execBusClose h s
  | .sigOpen => Sys2Proof.Machine.execSigOpen s
  | .sigWait h => Sys2Proof.Machine.execSigWait h s
  | .sigClose h => Sys2Proof.Machine.execSigClose h s

end Sys2Proof.Machine
end

