-- ==== Sys2Proof/Machine/Fetch.lean ====
section
/-! DEFINITION. Which operation runs next. While a session runs, the phase alone selects the SEQ step (spec/30_encoding.md
R101); in IDLE, DONE and FAILED, which have no SEQ step, the host's operations are fetched from the port (R253, log 2). A
host's operation waits while a session runs (spec/42_controller.md R210; DEDUCED, log 3). -/

namespace Sys2Proof.Machine

/-- The SEQ step a phase selects; IDLE, DONE and FAILED select none (R101, R181). -/
def seqOperation : Phase → Option Instr
  | .openBus => some .openBus
  | .openSig => some .openSig
  | .frame => some .frame
  | .cmdXfer => some .cmdXfer
  | .cmdWait => some .cmdWait
  | .lenXfer => some .lenXfer
  | .blkWait => some .blkWait
  | .blkXfer => some .blkXfer
  | .closeSig => some .closeSig
  | .closeBus => some .closeBus
  | .idle => none
  | .done => none
  | .failed => none

/-- What the machine does next. -/
inductive NextOp where
  /-- Run an operation in the state that follows its fetch. -/
  | run (i : Instr) (s : State)
  /-- There is no SEQ step and no operation of the host. -/
  | idle
  /-- The host's bytes are no operation. -/
  | undecodable (e : DecodeRefusal)

/-- The operation at the head of the host's port. -/
def hostOperation (s : State) : NextOp :=
  match s.port with
  | [] => .idle
  | b :: bs =>
    match decode (b :: bs) with
    | .ok (i, rest) => .run i { s with port := rest }
    | .error e => .undecodable e

/-- The next operation when the phase selects none: the TAKE of an outstanding `run_acquisition` call whose session has
ended (R198), or the host's. -/
def idleOperation (s : State) : NextOp := if s.call ∧ s.phase ≠ .idle then .run .take s else hostOperation s

/-- The next operation (R101, R210). -/
def nextOperation (s : State) : NextOp :=
  match seqOperation s.phase with
  | some i => .run i s
  | none => idleOperation s

/-- Place the SEQ step of a phase: the phase selects it, and its request is not outstanding yet. -/
def placeStep (p : Phase) (s : State) : State := { s with phase := p, pending := none }

/-- Place an operation of the host, with the bytes `own`, in a phase that fetches. No call is in flight, since its TAKE
would come first. -/
def placeHost (p : Phase) (own : List Byte) (s : State) : State := { s with phase := p, call := false, port := own }

/-- The phase a host's operation is fetched in: the present one where the machine fetches in it, else IDLE. -/
def fetchingPhase (p : Phase) : Phase := if seqOperation p = none then p else .idle

/-- Place BUS_TRANSFER: the phase whose transfer sends these bytes, and the registers it sends them from. Bytes that no
phase can send are no request of the SEQ, and stay the host's. -/
def placeTransfer (h : Handle) (out own : List Byte) (s : State) : State :=
  if out = handshakeBytes s.params then { placeStep .lenXfer s with busH := .opened h }
  else if out = zeros out.length then
    { placeStep .blkXfer s with busH := .opened h, blkLen := some out.length }
  else
    match out with
    | [b0, b1, b2, b3, b4, b5, b6, b7] =>
      { placeStep .cmdXfer s with busH := .opened h, frame := some #v[b0, b1, b2, b3, b4, b5, b6, b7] }
    | _ => placeHost (fetchingPhase s.phase) own s

/-- Place an operation, whose bytes are `own`, so that the next step runs it: a SEQ step by its phase, a request by the
phase that issues it and the handle it is issued on, an operation of the host in the port, in a phase it is enabled in. -/
def placeInstr (i : Instr) (own : List Byte) (s : State) : State :=
  match i with
  | .openBus => placeStep .openBus s
  | .openSig => placeStep .openSig s
  | .frame => placeStep .frame s
  | .cmdXfer => placeStep .cmdXfer s
  | .cmdWait => placeStep .cmdWait s
  | .lenXfer => placeStep .lenXfer s
  | .blkWait => placeStep .blkWait s
  | .blkXfer => placeStep .blkXfer s
  | .closeSig => placeStep .closeSig s
  | .closeBus => placeStep .closeBus s
  | .busOpen => placeStep .openBus s
  | .sigOpen => placeStep .openSig s
  | .busTransfer h out => placeTransfer h out own s
  | .sigWait h => { placeStep .cmdWait s with sigH := .opened h }
  | .sigClose h => { placeStep .closeSig s with sigH := .opened h }
  | .busClose h => { placeStep .closeBus s with busH := .opened h }
  | .start _ | .runAcquisition _ => placeHost .idle own s
  | .take => placeHost (if s.phase = .failed then .failed else .done) own s
  | .combine _ _ | .split _ | .decodeBlock _ | .decodeStream _ | .encodeBlock _ _ | .encodeStream _ _ | .buildFrame _ =>
    placeHost (fetchingPhase s.phase) own s

/-- Place the operation at the head of the bytes `bs`; of them only its own stay. -/
def placeOperation (bs : List Byte) (s : State) : State :=
  match decode bs with
  | .error _ => placeHost (fetchingPhase s.phase) bs s
  | .ok (i, rest) => placeInstr i (bs.take (bs.length - rest.length)) s

end Sys2Proof.Machine
end

