-- ==== Sys2Proof/Machine/Step.lean ====
section
/-! DEFINITION. One step of the machine, and where the host places an operation for the next step. -/

namespace Sys2Proof.Machine

/-- One step: run the next operation (R101). With no SEQ step and no operation of the host nothing happens (R208; DESIGN
CHOICE, log 19, safe); the host's bytes that are no operation are refused (R104). -/
def step (s : State) : Host.Outcome State Fault Refusal :=
  match nextOperation s with
  | .run i t => exec i t
  | .idle => .next s
  | .undecodable e => .refused (.undecodable e)

/-- The state whose next step fetches and runs the operation with the first bits `w` and zero operands (log 2). -/
def State.withFetchWord (s : State) (nbits w : Nat) : State := placeOperation (tableBytes nbits w) s

end Sys2Proof.Machine
end

