-- ==== Sys2Proof/Safety.lean ====
section
/-! DEFINITION. What counts as a safe run, in the terms the statements use: how the registers, the handles, the errors, the
outcome and the outstanding request follow the phase, and what the trace looks like (spec/10_state.md R29 to R38,
spec/42_controller.md R181, R202, spec/60_exceptions.md R282). -/

namespace Sys2Proof.Machine

/-- The phases in which the frame has been built and the protocol is under way: CMD_XFER to BLK_XFER (R181). -/
def Phase.afterFrame : Phase → Bool
  | .cmdXfer | .cmdWait | .lenXfer | .blkWait | .blkXfer => true
  | .idle | .openBus | .openSig | .frame | .closeSig | .closeBus | .done | .failed => false

/-- The phases before the frame is built: OPEN_BUS, OPEN_SIG, FRAME (R181). -/
def Phase.beforeFrame : Phase → Bool
  | .openBus | .openSig | .frame => true
  | .idle | .cmdXfer | .cmdWait | .lenXfer | .blkWait | .blkXfer | .closeSig | .closeBus | .done | .failed => false

/-- The block loop's phases (R180). -/
def Phase.inLoop : Phase → Bool
  | .blkWait | .blkXfer => true
  | .idle | .openBus | .openSig | .frame | .cmdXfer | .cmdWait | .lenXfer | .closeSig | .closeBus | .done | .failed => false

/-- The phases whose steps raise: OPEN_BUS to BLK_XFER (R277). -/
def Phase.raises (p : Phase) : Bool := p.beforeFrame || p.afterFrame

/-- The handle registers follow the phase (R30, R31, R282, R323): nothing is open before it was opened, both handles are
open from FRAME to BLK_XFER, CLOSE_SIG and CLOSE_BUS have something to release at most once, and no handle is open in IDLE,
DONE or FAILED. -/
def HandlesFollowPhase (s : State) : Prop :=
  match s.phase with
  | .openBus => s.busH = .none ∧ s.sigH = .none
  | .openSig => s.busH.isOpen = true ∧ s.sigH = .none
  | .frame | .cmdXfer | .cmdWait | .lenXfer | .blkWait | .blkXfer => s.busH.isOpen = true ∧ s.sigH.isOpen = true
  | .closeSig => s.busH ≠ .released ∧ s.sigH ≠ .released ∧ (s.busH = .none → s.sigH = .none)
  | .closeBus => s.busH ≠ .released ∧ s.sigH.isOpen = false ∧ (s.busH = .none → s.sigH = .none)
  | .idle | .done | .failed => s.busH.isOpen = false ∧ s.sigH.isOpen = false

/-- A register that a phase's step reads has been written (R38), and the frame is the one the framer builds of `cfg`
(R167). -/
structure RegistersFollowPhase (s : State) : Prop where
  cfgWritten : s.phase ≠ .idle → s.cfg.isSome = true
  frameUnwritten : s.phase.beforeFrame = true → s.frame = none
  frameBuilt : s.phase.afterFrame = true →
    ∃ f, s.frame = some f ∧ buildFrame s.params.frameRangePolicy s.config = .ok f
  lengthWritten : s.phase.inLoop = true → s.lenWord.isSome = true
  blockLength : s.blkLen = s.lenWord.map blockBytes

/-- The accumulators and the block counter agree (R27, R29): one sample set a block and channel, each of `len_word`
samples; the counter starts at 0, stays below `num_cpi` in the loop and has reached it on a success. -/
structure AccumulatorsAgree (s : State) : Prop where
  ch1Count : s.ch1.length = s.blkIdx
  ch2Count : s.ch2.length = s.blkIdx
  setLength : ∀ set ∈ s.ch1 ++ s.ch2, s.lenWord.map BitVec.toNat = some set.length
  bound : s.blkIdx ≤ s.config.numCpi
  beforeLoop : s.phase.raises = true → s.phase.inLoop = false → s.blkIdx = 0
  inLoop : s.phase.inLoop = true → s.blkIdx < s.config.numCpi
  complete : s.phase = .closeSig ∨ s.phase = .closeBus ∨ s.phase = .done → s.err = none →
    s.blkIdx = s.config.numCpi

/-- The error records follow the phase (R32, R33, R277, R280, R285): none before an error is raised, a secondary one only
after a primary one, DONE without and FAILED with one, and never a CodecShapeFault. Without an error CLOSE_SIG and CLOSE_BUS
find what a complete session opened. -/
structure ErrorsFollowPhase (s : State) : Prop where
  noneBefore : s.phase.raises = true → s.err = none
  secondary : s.err = none → s.secErr = []
  doneWithout : s.phase = .done → s.err = none
  failedWith : s.phase = .failed → s.err.isSome = true
  protocolKind : ∀ e, s.err = some e → e.kind ≠ .codecShapeFault
  closeSigOpen : s.phase = .closeSig → s.err = none → s.busH.isOpen = true ∧ s.sigH.isOpen = true
  closeBusOpen : s.phase = .closeBus → s.err = none → s.busH.isOpen = true ∧ s.sigH = .released

/-- The outcome follows the phase (R34, R195, R196). -/
structure OutcomeFollowsPhase (s : State) : Prop where
  running : s.isBusy = true → s.outcome = none
  done : s.phase = .done → s.outcome = some (.ok s.ch1 s.ch2)
  failed : s.phase = .failed → ∃ e, s.err = some e ∧ s.outcome = some (.fail e s.secErr)

/-- A request outstanding is the one the phase's step issues, so none is in IDLE, DONE and FAILED (R208, R240). -/
def PendingFollowsPhase (s : State) : Prop := ∀ req, s.pending = some req → requestOfPhase s = some req

/-- The session invariant. -/
structure SessionInv (s : State) : Prop where
  handles : HandlesFollowPhase s
  registers : RegistersFollowPhase s
  accumulators : AccumulatorsAgree s
  errors : ErrorsFollowPhase s
  outcome : OutcomeFollowsPhase s
  pending : PendingFollowsPhase s

/-- An event without its response: what the SEQ asked for. -/
inductive Asked where
  | busOpen
  | sigOpen
  | xfer (out : List Byte)
  | wait
  | sigClose
  | busClose
  deriving DecidableEq, Repr

/-- What an event asked for. -/
def Event.asked : Event → Asked
  | .busOpen _ _ _ _ => .busOpen
  | .sigOpen _ _ => .sigOpen
  | .xfer out _ => .xfer out
  | .wait _ => .wait
  | .sigClose _ => .sigClose
  | .busClose _ => .busClose

/-- What the SEQ asked for, in order. -/
def State.asked (s : State) : List Asked := s.trace.map Event.asked

/-- `n` blocks' waits and transfers (R202). -/
def blocksAsked (blkLen : Nat) : Nat → List Asked
  | 0 => []
  | n + 1 => blocksAsked blkLen n ++ [.wait, .xfer (zeros blkLen)]

/-- What a session without errors has asked for up to the length handshake's answer (R202). -/
def openingAsked (s : State) : List Asked :=
  [.busOpen, .sigOpen, .xfer s.frameBytes, .wait, .xfer (handshakeBytes s.params)]

/-- What a session without errors has asked for when it enters its present phase (R181, R202); `none` where the phase
says nothing about it. -/
def expectedAsked (s : State) : Option (List Asked) :=
  match s.phase with
  | .openBus => some []
  | .openSig => some [.busOpen]
  | .frame | .cmdXfer => some [.busOpen, .sigOpen]
  | .cmdWait => some [.busOpen, .sigOpen, .xfer s.frameBytes]
  | .lenXfer => some [.busOpen, .sigOpen, .xfer s.frameBytes, .wait]
  | .blkWait => some (openingAsked s ++ blocksAsked s.blockLen s.blkIdx)
  | .blkXfer => some (openingAsked s ++ blocksAsked s.blockLen s.blkIdx ++ [.wait])
  | .closeSig => some (openingAsked s ++ blocksAsked s.blockLen s.blkIdx)
  | .closeBus => some (openingAsked s ++ blocksAsked s.blockLen s.blkIdx ++ [.sigClose])
  | .done => some (openingAsked s ++ blocksAsked s.blockLen s.blkIdx ++ [.sigClose, .busClose])
  | .idle | .failed => none

/-- A session without an error has asked for exactly what its phase expects (R202, R208). -/
def TraceFollowsPhase (s : State) : Prop :=
  s.err = none → ∀ asked, expectedAsked s = some asked → s.asked = asked

/-- Whether the line, at a level now, goes from low to high in the events (R246). -/
def lineRises : Bool → List EnvEvent → Bool
  | _, [] => false
  | line, e :: es => (lineAfter line e && !line) || lineRises (lineAfter line e) es

/-- How often the trace closes the ready signal. -/
def State.sigCloses (s : State) : Nat := s.asked.count .sigClose

/-- How often the trace closes the bus transport. -/
def State.busCloses (s : State) : Nat := s.asked.count .busClose

/-- How often the trace opened the ready signal successfully. -/
def State.sigOpens (s : State) : Nat := s.trace.countP fun e => decide (e = .sigOpen s.params.pinId .ok)

/-- How often the trace opened the bus transport successfully. -/
def State.busOpens (s : State) : Nat :=
  s.trace.countP fun e => decide (e = .busOpen s.params.busId s.params.deviceId s.params.clockHz .ok)

/-- In a session and after it each handle was opened once if it ever was, and closed once if it is released (R30, R31,
R241, R244, R245, R249, R282). -/
def ReleasesMatch (s : State) : Prop :=
  s.busOpens = (if s.busH = .none then 0 else 1) ∧ s.busCloses = (if s.busH = .released then 1 else 0) ∧
    s.sigOpens = (if s.sigH = .none then 0 else 1) ∧ s.sigCloses = (if s.sigH = .released then 1 else 0)

/-- Whether the parameters allow the response an event shows (R242 to R250, R273). -/
def Event.allowed (p : Params) : Event → Prop
  | .busOpen _ _ _ r => ∀ c, r = .fault c → openFaults c = true
  | .sigOpen _ r => ∀ c, r = .fault c → openFaults c = true
  | .xfer _ r => ∀ c, r = .fault c → xferFaults p c = true
  | .wait r => ∀ c, r = .fault c → waitFaults p c = true
  | .sigClose r => ∀ c, r = .fault c → closeFaults c = true
  | .busClose r => ∀ c, r = .fault c → closeFaults c = true

/-- Every response in the trace is one its request's contract allows. -/
def ResponsesAllowed (s : State) : Prop := ∀ e ∈ s.trace, e.allowed s.params

/-- The environment's script of a session in which nothing fails (R107, R254): the two opens, the command transfer, the
ready pulse of CMD_WAIT, the announced length, for each block a pulse and the block, and the two closes. A pulse raises the
line, lets the wait complete and lowers the line. -/
def pulse : List EnvEvent := [.line true, .wait .active, .line false]

/-- The script's blocks. -/
def blockScript (blocks : List (List Byte)) : List EnvEvent := blocks.flatMap fun b => pulse ++ [.xfer (.ok b)]

/-- The script: `h` and `g` are the handles, `x` what the command transfer returns, `len` the announced length. -/
def sessionScript (h g : Handle) (x : List Byte) (len : U16) (blocks : List (List Byte)) : List EnvEvent :=
  [.busOpen (.ok h), .sigOpen (.ok g), .xfer (.ok x)] ++ pulse ++ [.xfer (.ok [lowerLane len, upperLane len])] ++
    blockScript blocks ++ [.sigClose .ok, .busClose .ok]

end Sys2Proof.Machine
end

