-- ==== Sys2Proof/Certificates/Slice0/Obligations.lean ====
section
/-! DEFINITION. The statements for the provers. Each docstring names the rule of spec/ it formalises or, for a statement
about the model's own conventions, the log entry it rests on. A statement that gives the next state as a whole record says
the frame too: every field it does not write is the old state's. Throughout, the value an operation returns stands in the
model's own field `result` (log 4) and a collaborator's response at the head of the model's own queue `env` (log 5). Where
the spec marks a rule `[derived: …]`, it is the spec's own inference, and the docstring names the rules it rests on. -/

open Sys2Proof Sys2Proof.Machine

/-! ### The codec -/

/-- R121: COMBINE returns `(upper << 8) | lower`, zero-extended, and writes nothing else. -/
def Obligations.CombineJoinsLanes : Prop :=
  ∀ (u l : Byte) (s : State), (Instr.combine u l).opCode = 0x01 ∧ ∃ v : U16,
    v = (u.setWidth 16 <<< 8) ||| l.setWidth 16 ∧ v.toNat = 256 * u.toNat + l.toNat ∧ exec (.combine u l) s = .next { s with result := some (.word v) }

/-- R122: SPLIT returns `((value >> 8) & 0xFF, value & 0xFF)` and writes nothing else. -/
def Obligations.SplitSeparatesLanes : Prop :=
  ∀ (v : U16) (s : State), (Instr.split v).opCode = 0x02 ∧ ∃ u l : Byte, u = ((v >>> 8) &&& 0xFF).setWidth 8 ∧
    l = (v &&& 0xFF).setWidth 8 ∧ u.toNat = v.toNat / 256 ∧ l.toNat = v.toNat % 256 ∧
    exec (.split v) s = .next { s with result := some (.lanes u l) }

/-- R121, R122: COMBINE and SPLIT are inverse to each other (R123, whose converse the spec marks as its own inference).
-/
def Obligations.CombineSplitInverse : Prop :=
  (∀ v : U16, combine (split v).1 (split v).2 = v) ∧ (∀ u l : Byte, split (combine u l) = (u, l))

/-- R124: DECODE_BLOCK decodes channel 1 from bytes 3 and 2 and channel 2 from bytes 1 and 0, and faults on any other
length. -/
def Obligations.DecodeBlockResult : Prop :=
  (∀ g : List Byte, (Instr.decodeBlock g).opCode = 0x03) ∧
  (∀ (b0 b1 b2 b3 : Byte) (s : State), ∃ x y : U16, x.toNat = 256 * b3.toNat + b2.toNat ∧
    y.toNat = 256 * b1.toNat + b0.toNat ∧
    exec (.decodeBlock [b0, b1, b2, b3]) s = .next { s with result := some (.samples x y) }) ∧
  (∀ (g : List Byte) (s : State), g.length ≠ 4 →
    exec (.decodeBlock g) s = .fault (.codecShape .decodeBlock [g.length]))

/-- R125 and R129: DECODE_STREAM of `4n` bytes returns two sequences of length `n` whose `k`-th samples are those of
group `k`; any other length faults with no result. -/
def Obligations.DecodeStreamResult : Prop :=
  (∀ b : List Byte, (Instr.decodeStream b).opCode = 0x04) ∧
  (∀ (b : List Byte) (n : Nat) (s : State), b.length = 4 * n → ∃ c1 c2 : List U16,
    exec (.decodeStream b) s = .next { s with result := some (.channels c1 c2) } ∧ c1.length = n ∧ c2.length = n ∧
    ∀ k, k < n → ∃ b0 b1 b2 b3 : Byte, (b.drop (4 * k)).take 4 = [b0, b1, b2, b3] ∧
      c1[k]? = some (combine b3 b2) ∧ c2[k]? = some (combine b1 b0)) ∧
  (∀ (b : List Byte) (s : State), b.length % 4 ≠ 0 →
    exec (.decodeStream b) s = .fault (.codecShape .decodeStream [b.length]))

/-- R122, R124: ENCODE_BLOCK returns `[l2, u2, l1, u1]` (R126, which the spec marks as its own inference). -/
def Obligations.EncodeBlockResult : Prop :=
  ∀ (x y : U16) (s : State), (Instr.encodeBlock x y).opCode = 0x05 ∧ ∃ l2 u2 l1 u1 : Byte,
    split x = (u1, l1) ∧ split y = (u2, l2) ∧ exec (.encodeBlock x y) s = .next { s with result := some (.bytes [l2, u2, l1, u1]) }

/-- R122, R125: ENCODE_STREAM of two sequences of length `n` returns `4n` bytes whose `k`-th group is ENCODE_BLOCK of
the `k`-th samples; sequences of different lengths fault (R127, which the spec marks as its own inference). -/
def Obligations.EncodeStreamResult : Prop :=
  (∀ c1 c2 : List U16, (Instr.encodeStream c1 c2).opCode = 0x06) ∧
  (∀ (c1 c2 : List U16) (s : State), c1.length = c2.length → ∃ b : List Byte,
    exec (.encodeStream c1 c2) s = .next { s with result := some (.bytes b) } ∧ b.length = 4 * c1.length ∧
    ∀ k x y, c1[k]? = some x → c2[k]? = some y → (b.drop (4 * k)).take 4 = encodeBlock x y) ∧
  (∀ (c1 c2 : List U16) (s : State), c1.length ≠ c2.length →
    exec (.encodeStream c1 c2) s = .fault (.codecShape .encodeStream [c1.length, c2.length]))

/-- R121 to R125: the encoders and the decoders are inverse to each other, on blocks and on streams (R128, which the
spec marks as its own inference). -/
def Obligations.StreamCodecInverse : Prop :=
  (∀ b : List Byte, b.length % 4 = 0 → ∃ c1 c2, decodeStream b = some (c1, c2) ∧ encodeStream c1 c2 = some b) ∧
  (∀ c1 c2 : List U16, c1.length = c2.length → ∃ b, encodeStream c1 c2 = some b ∧ decodeStream b = some (c1, c2)) ∧
  (∀ g : List Byte, g.length = 4 → ∃ x y, decodeBlock g = some (x, y) ∧ encodeBlock x y = g) ∧
  (∀ x y : U16, decodeBlock (encodeBlock x y) = some (x, y))

/-- R124: read as one little-endian 32-bit word, a sample group holds channel 1 in bits 31..16 and channel 2 in bits
15..0 (R68, which the spec marks as its own inference). -/
def Obligations.GroupWordView : Prop :=
  ∀ (b0 b1 b2 b3 : Byte) (W : Nat), W = littleEndian [b0, b1, b2, b3] → ∃ x y : U16,
    decodeBlock [b0, b1, b2, b3] = some (x, y) ∧ x.toNat = W / 2 ^ 16 ∧ y.toNat = W % 2 ^ 16

/-- R120, R281 (log 15, log 24): an operation whose operands lie in its domain never faults, and a codec operation whose
operands do not always does. -/
def Obligations.OnlyIllShapedOperandsFault : Prop :=
  ∀ (i : Instr) (s : State), (∃ f, exec i s = .fault f) ↔ i.wellFormed = false

/-! ### The framer -/

/-- R164, R165: under either policy, BUILD_FRAME of a record in range returns its six byte fields in order and then the
low and the high byte of `pri_length`. -/
def Obligations.BuildFrameOfRecordInRange : Prop :=
  ∀ (c : AcqConfig) (s : State), c.inRange = true → ∃ f : Frame,
    exec (.buildFrame c) s = .next { s with result := some (.frame f) } ∧
    f.toList.map BitVec.toNat = [c.randomPhaseChip, c.randomOnTime, c.numCpi, c.numPulse, c.numChip, c.numCycle,
      c.priLength % 256, c.priLength / 256] ∧
    f[6] = (split (BitVec.ofNat 16 c.priLength)).2 ∧ f[7] = (split (BitVec.ofNat 16 c.priLength)).1

/-- R100, R160, R162 (log 14): under VALIDATE, BUILD_FRAME of a record out of range reports the first field in frame
order that exceeds its width, and only that one. That the error of a stand-alone BUILD_FRAME is a returned value, and no
stop and no error record, is the model's (log 14). -/
def Obligations.BuildFrameReportsFirstField : Prop :=
  ∀ (c : AcqConfig) (s : State) (values limits : List Nat), s.params.frameRangePolicy = .validate → c.inRange = false →
    values = [c.randomPhaseChip, c.randomOnTime, c.numCpi, c.numPulse, c.numChip, c.numCycle, c.priLength] →
    limits = [255, 255, 255, 255, 255, 255, 65535] →
    ∃ j v l, exec (.buildFrame c) s = .next { s with result := some (.frameBuildError j v) } ∧
      buildFrame .validate c = .error (j, v) ∧ values[j]? = some v ∧ limits[j]? = some l ∧ l < v ∧
      ∀ i, i < j → ∀ w m, values[i]? = some w → limits[i]? = some m → w ≤ m

/-- R163: under TRUNCATE, BUILD_FRAME checks nothing and keeps the low bits of every field. -/
def Obligations.BuildFrameTruncates : Prop :=
  ∀ (c : AcqConfig) (s : State), s.params.frameRangePolicy = .truncate → ∃ f : Frame,
    exec (.buildFrame c) s = .next { s with result := some (.frame f) } ∧
    f.toList.map BitVec.toNat = [c.randomPhaseChip % 256, c.randomOnTime % 256, c.numCpi % 256, c.numPulse % 256,
      c.numChip % 256, c.numCycle % 256, c.priLength % 256, c.priLength / 256 % 256]

/-- R164: the frame of a record in range, read as one little-endian 64-bit word, holds the fields at their places (R69,
which the spec marks as its own inference). -/
def Obligations.FrameWordView : Prop :=
  ∀ (c : AcqConfig) (policy : RangePolicy), c.inRange = true → ∃ f : Frame, buildFrame policy c = .ok f ∧
    littleEndian f.toList = c.randomPhaseChip + 2 ^ 8 * c.randomOnTime + 2 ^ 16 * c.numCpi + 2 ^ 24 * c.numPulse +
      2 ^ 32 * c.numChip + 2 ^ 40 * c.numCycle + 2 ^ 48 * c.priLength

/-! ### The host's actions -/

/-- R182: in IDLE, with no request outstanding and no call in flight, START writes every register of 10_state.md and
goes to OPEN_BUS; elsewhere it has no step. -/
def Obligations.StartBeginsSession : Prop :=
  ∀ (c : AcqConfig) (s : State), (Instr.start c).opCode = 0x20 ∧
    (s.phase = .idle → s.pending = none → s.call = false → exec (.start c) s = .next
      { s with
        phase := .openBus, cfg := some c, frame := none, lenWord := none, blkLen := none, blkIdx := 0, rx := none,
        ch1 := [], ch2 := [], busH := .none, sigH := .none, err := none, secErr := [], outcome := none, trace := [] }) ∧
    (s.phase ≠ .idle → exec (.start c) s = .refused (.notEnabled "START" s.phase))

/-- R197: in DONE and FAILED, TAKE returns the outcome and goes to IDLE, and writes no other register; elsewhere it has
no step. -/
def Obligations.TakeReturnsOutcome : Prop :=
  ∀ s : State, Instr.take.opCode = 0x2B ∧
    (s.phase = .done ∨ s.phase = .failed → s.call = false →
      exec .take s = .next { s with phase := .idle, result := some (.taken s.outcome) }) ∧
    (s.phase ≠ .done → s.phase ≠ .failed → exec .take s = .refused (.notEnabled "TAKE" s.phase))

/-- R198 in the form of R108's expansion (log 12): in IDLE, RUN_ACQUISITION does what START does and leaves the call
outstanding; elsewhere it has no step. -/
def Obligations.RunBeginsSession : Prop :=
  ∀ (c : AcqConfig) (s : State), (Instr.runAcquisition c).opCode = 0x30 ∧
    (s.phase = .idle → ∃ t, exec (.start c) s = .next t ∧
      exec (.runAcquisition c) s = .next { t with call := true }) ∧
    (s.phase ≠ .idle → exec (.runAcquisition c) s = .refused (.notEnabled "RUN_ACQUISITION" s.phase))

/-- R108, R198 (log 12): when the session of an outstanding call has ended, the machine's next step takes the outcome,
and the call's result is the taken outcome: the two channels, or the session's error and its secondary errors. -/
def Obligations.RunCallReturns : Prop :=
  ∀ s : State, s.call = true →
    (∀ a b, s.phase = .done → s.outcome = some (.ok a b) →
      step s = .next { s with phase := .idle, call := false, result := some (.acquired a b) }) ∧
    (∀ e es, s.phase = .failed → s.outcome = some (.fail e es) →
      step s = .next { s with phase := .idle, call := false, result := some (.protocolError e es) })

/-! ### The SEQ steps -/

/-- R183: OPEN_BUS on each response to BUS_OPEN. -/
def Obligations.OpenBusOutcome : Prop :=
  ∀ (s : State) (rest : List EnvEvent), s.phase = .openBus → s.pending = none →
    Instr.openBus.opCode = 0x21 ∧
    (∀ h, s.env = .busOpen (.ok h) :: rest → exec .openBus s = .next
      { s with
        phase := .openSig, busH := .opened h, env := rest
        trace := s.trace ++ [.busOpen s.params.busId s.params.deviceId s.params.clockHz .ok] }) ∧
    (∀ c, c = .noDevice ∨ c = .ioFault → s.err = none → s.env = .busOpen (.fault c) :: rest → exec .openBus s = .next
      { s with
        phase := .closeSig, err := some ⟨.transport c, .openBus, s.blkIdx, .request .busOpen⟩
        env := rest
        trace := s.trace ++ [.busOpen s.params.busId s.params.deviceId s.params.clockHz (.fault c)] })

/-- R184: OPEN_SIG on each response to SIG_OPEN. -/
def Obligations.OpenSigOutcome : Prop :=
  ∀ (s : State) (rest : List EnvEvent), s.phase = .openSig → s.pending = none →
    Instr.openSig.opCode = 0x22 ∧
    (∀ h, s.env = .sigOpen (.ok h) :: rest → exec .openSig s = .next
      { s with
        phase := .frame, sigH := .opened h, env := rest
        trace := s.trace ++ [.sigOpen s.params.pinId .ok] }) ∧
    (∀ c, c = .noDevice ∨ c = .ioFault → s.err = none → s.env = .sigOpen (.fault c) :: rest → exec .openSig s = .next
      { s with
        phase := .closeSig, err := some ⟨.transport c, .openSig, s.blkIdx, .request .sigOpen⟩
        env := rest
        trace := s.trace ++ [.sigOpen s.params.pinId (.fault c)] })

/-- R185: FRAME writes the frame BUILD_FRAME builds of `cfg`, or raises its error; no request and no event. -/
def Obligations.FrameOutcome : Prop :=
  ∀ (s : State) (c : AcqConfig), s.phase = .frame → s.cfg = some c →
    Instr.frame.opCode = 0x23 ∧
    (c.inRange = true ∨ s.params.frameRangePolicy = .truncate → ∃ f : Frame,
      buildFrame s.params.frameRangePolicy c = .ok f ∧
      f.toList.map BitVec.toNat = [c.randomPhaseChip % 256, c.randomOnTime % 256, c.numCpi % 256, c.numPulse % 256,
        c.numChip % 256, c.numCycle % 256, c.priLength % 256, c.priLength / 256 % 256] ∧
      exec .frame s = .next { s with frame := some f, phase := .cmdXfer }) ∧
    (c.inRange = false → s.params.frameRangePolicy = .validate → s.err = none → ∃ j v l,
      buildFrame s.params.frameRangePolicy c = .error (j, v) ∧
      [c.randomPhaseChip, c.randomOnTime, c.numCpi, c.numPulse, c.numChip, c.numCycle, c.priLength][j]? = some v ∧
      [255, 255, 255, 255, 255, 255, 65535][j]? = some l ∧ l < v ∧
      exec .frame s = .next
        { s with phase := .closeSig, err := some ⟨.fbRange, .frame, s.blkIdx, .field j v⟩ })

/-- R186: CMD_XFER sends the frame and discards whatever it receives, or raises the transport's fault. -/
def Obligations.CmdXferOutcome : Prop :=
  ∀ (s : State) (f : Frame) (rest : List EnvEvent), s.phase = .cmdXfer → s.pending = none → s.frame = some f →
    Instr.cmdXfer.opCode = 0x24 ∧
    (∀ b, s.env = .xfer (.ok b) :: rest → exec .cmdXfer s = .next
      { s with
        phase := .cmdWait, env := rest
        trace := s.trace ++ [.xfer f.toList (.ok b)] }) ∧
    (∀ c, c = .ioFault ∨ (c = .xferTimeout ∧ s.params.xferTimeout ≠ none) ∨
        (c = .cancelled ∧ s.params.cancellable = true) → s.err = none → s.env = .xfer (.fault c) :: rest →
      exec .cmdXfer s = .next
        { s with
          phase := .closeSig, err := some ⟨.transport c, .cmdXfer, s.blkIdx, .request .cmdXfer⟩
          env := rest
          trace := s.trace ++ [.xfer f.toList (.fault c)] })

/-- R187, R246, R247 (log 7): CMD_WAIT completes on a transition of the line to high after the wait was issued and,
under LEVEL, on a line that is already high; or raises the fault the collaborator reports. -/
def Obligations.CmdWaitOutcome : Prop :=
  ∀ (s : State) (rest : List EnvEvent), s.phase = .cmdWait → s.pending = none →
    Instr.cmdWait.opCode = 0x25 ∧
    (s.readyLine = false → s.env = .line true :: .wait .active :: rest → exec .cmdWait s = .next
      { s with
        phase := .lenXfer, readyLine := true, readySeen := true, env := rest
        trace := s.trace ++ [.wait .active] }) ∧
    (s.params.readySense = .level → s.readyLine = true → s.env = .wait .active :: rest → exec .cmdWait s = .next
      { s with phase := .lenXfer, readySeen := true, env := rest, trace := s.trace ++ [.wait .active] }) ∧
    (∀ c, c = .ioFault ∨ (c = .waitTimeout ∧ s.params.readyTimeout ≠ none) ∨
        (c = .cancelled ∧ s.params.cancellable = true) → s.err = none → s.env = .wait (.fault c) :: rest →
      exec .cmdWait s = .next
        { s with
          phase := .closeSig, err := some ⟨.transport c, .cmdWait, s.blkIdx, .request .cmdWait⟩
          readySeen := s.params.readySense == .level && s.readyLine, env := rest
          trace := s.trace ++ [.wait (.fault c)] })

/-- R188, R189: LEN_XFER sends HANDSHAKE_FILL; two received bytes give `len_word`, `blk_len = 4 × len_word` and the next
phase; any other number of bytes, kept in `rx`, raises DecodeError(DE_LEN_SIZE); a fault raises a TransportError. -/
def Obligations.LenXferOutcome : Prop :=
  ∀ (s : State) (c : AcqConfig) (fill : List Byte) (rest : List EnvEvent), s.phase = .lenXfer → s.pending = none →
    s.cfg = some c → fill = [s.params.handshakeFill.1, s.params.handshakeFill.2] →
    Instr.lenXfer.opCode = 0x26 ∧
    (∀ b0 b1, s.env = .xfer (.ok [b0, b1]) :: rest → ∃ w : U16, w.toNat = 256 * b1.toNat + b0.toNat ∧
      exec .lenXfer s = .next
        { s with
          phase := if c.numCpi = 0 then .closeSig else .blkWait
          rx := some [b0, b1], lenWord := some w, blkLen := some (4 * w.toNat), env := rest
          trace := s.trace ++ [.xfer fill (.ok [b0, b1])] }) ∧
    (∀ b, b.length ≠ 2 → s.err = none → s.env = .xfer (.ok b) :: rest → exec .lenXfer s = .next
      { s with
        phase := .closeSig, rx := some b, err := some ⟨.deLenSize, .lenXfer, s.blkIdx, .length b.length⟩
        env := rest
        trace := s.trace ++ [.xfer fill (.ok b)] }) ∧
    (∀ k, k = .ioFault ∨ (k = .xferTimeout ∧ s.params.xferTimeout ≠ none) ∨
        (k = .cancelled ∧ s.params.cancellable = true) → s.err = none → s.env = .xfer (.fault k) :: rest →
      exec .lenXfer s = .next
        { s with
          phase := .closeSig, err := some ⟨.transport k, .lenXfer, s.blkIdx, .request .lenXfer⟩
          env := rest
          trace := s.trace ++ [.xfer fill (.fault k)] })

/-- R190, R246, R247 (log 7): BLK_WAIT, as CMD_WAIT but for its phases and its error. -/
def Obligations.BlkWaitOutcome : Prop :=
  ∀ (s : State) (rest : List EnvEvent), s.phase = .blkWait → s.pending = none →
    Instr.blkWait.opCode = 0x27 ∧
    (s.readyLine = false → s.env = .line true :: .wait .active :: rest → exec .blkWait s = .next
      { s with
        phase := .blkXfer, readyLine := true, readySeen := true, env := rest
        trace := s.trace ++ [.wait .active] }) ∧
    (s.params.readySense = .level → s.readyLine = true → s.env = .wait .active :: rest → exec .blkWait s = .next
      { s with phase := .blkXfer, readySeen := true, env := rest, trace := s.trace ++ [.wait .active] }) ∧
    (∀ c, c = .ioFault ∨ (c = .waitTimeout ∧ s.params.readyTimeout ≠ none) ∨
        (c = .cancelled ∧ s.params.cancellable = true) → s.err = none → s.env = .wait (.fault c) :: rest →
      exec .blkWait s = .next
        { s with
          phase := .closeSig, err := some ⟨.transport c, .blkWait, s.blkIdx, .request .blkWait⟩
          readySeen := s.params.readySense == .level && s.readyLine, env := rest
          trace := s.trace ++ [.wait (.fault c)] })

/-- R191, R192: BLK_XFER sends `blk_len` zero bytes; a block of `blk_len` bytes appends one sample set to each channel
and counts; the alignment check comes before the size check, and on either error nothing is appended. -/
def Obligations.BlkXferOutcome : Prop :=
  ∀ (s : State) (c : AcqConfig) (n : Nat) (rest : List EnvEvent), s.phase = .blkXfer → s.pending = none →
    s.cfg = some c → s.blkLen = some n →
    Instr.blkXfer.opCode = 0x28 ∧
    (∀ b, b.length = n → n % 4 = 0 → s.env = .xfer (.ok b) :: rest → ∃ x y, decodeStream b = some (x, y) ∧
      exec .blkXfer s = .next
        { s with
          phase := if s.blkIdx + 1 < c.numCpi then .blkWait else .closeSig
          rx := some b, ch1 := s.ch1 ++ [x], ch2 := s.ch2 ++ [y], blkIdx := s.blkIdx + 1
          env := rest
          trace := s.trace ++ [.xfer (List.replicate n 0) (.ok b)] }) ∧
    (∀ b cause, (b.length % 4 ≠ 0 ∧ cause = .deBlkAlign) ∨ (b.length % 4 = 0 ∧ b.length ≠ n ∧ cause = .deBlkSize) →
      s.err = none → s.env = .xfer (.ok b) :: rest → exec .blkXfer s = .next
        { s with
          phase := .closeSig, rx := some b, err := some ⟨cause, .blkXfer, s.blkIdx, .length b.length⟩
          env := rest
          trace := s.trace ++ [.xfer (List.replicate n 0) (.ok b)] }) ∧
    (∀ k, k = .ioFault ∨ (k = .xferTimeout ∧ s.params.xferTimeout ≠ none) ∨
        (k = .cancelled ∧ s.params.cancellable = true) → s.err = none → s.env = .xfer (.fault k) :: rest →
      exec .blkXfer s = .next
        { s with
          phase := .closeSig, err := some ⟨.transport k, .blkXfer, s.blkIdx, .request .blkXfer⟩
          env := rest
          trace := s.trace ++ [.xfer (List.replicate n 0) (.fault k)] })

/-- R193, R285: CLOSE_SIG releases an open ready signal whatever the response, records a close fault as the session's
error or, where there is one, as a secondary error, issues no request where the signal is not open, and goes to
CLOSE_BUS. -/
def Obligations.CloseSigOutcome : Prop :=
  ∀ (s : State) (rest : List EnvEvent), s.phase = .closeSig → s.pending = none →
    Instr.closeSig.opCode = 0x29 ∧
    ((∀ h, s.sigH ≠ .opened h) → exec .closeSig s = .next { s with phase := .closeBus }) ∧
    (∀ h, s.sigH = .opened h →
      (s.env = .sigClose .ok :: rest → exec .closeSig s = .next
        { s with
          phase := .closeBus, sigH := .released, env := rest
          trace := s.trace ++ [.sigClose .ok] }) ∧
      (s.err = none → s.env = .sigClose (.fault .ioFault) :: rest → exec .closeSig s = .next
        { s with
          phase := .closeBus, sigH := .released, env := rest
          err := some ⟨.transport .ioFault, .closeSig, s.blkIdx, .request .closeSig⟩
          trace := s.trace ++ [.sigClose (.fault .ioFault)] }) ∧
      (∀ e, s.err = some e → s.env = .sigClose (.fault .ioFault) :: rest → exec .closeSig s = .next
        { s with
          phase := .closeBus, sigH := .released, env := rest
          secErr := s.secErr ++ [⟨.transport .ioFault, .closeSig, s.blkIdx, .request .closeSig⟩]
          trace := s.trace ++ [.sigClose (.fault .ioFault)] }))

/-- R194, R195, R196, R285: CLOSE_BUS releases an open handle whatever the response, issues no request where none is
open, and ends the session: DONE with both channels where there is no error, else FAILED with the errors and no channel
data; a close fault makes an otherwise successful session fail, and is a secondary error of a failed one. -/
def Obligations.CloseBusOutcome : Prop :=
  ∀ (s : State) (rest : List EnvEvent) (fresh : ErrRec), s.phase = .closeBus → s.pending = none →
    fresh = ⟨.transport .ioFault, .closeBus, s.blkIdx, .request .closeBus⟩ →
    Instr.closeBus.opCode = 0x2A ∧
    ((∀ h, s.busH ≠ .opened h) →
      (s.err = none → exec .closeBus s = .next { s with phase := .done, outcome := some (.ok s.ch1 s.ch2) }) ∧
      (∀ e, s.err = some e →
        exec .closeBus s = .next { s with phase := .failed, outcome := some (.fail e s.secErr) })) ∧
    (∀ h, s.busH = .opened h →
      (s.err = none → s.env = .busClose .ok :: rest → exec .closeBus s = .next
        { s with
          phase := .done, busH := .released, outcome := some (.ok s.ch1 s.ch2), env := rest
          trace := s.trace ++ [.busClose .ok] }) ∧
      (∀ e, s.err = some e → s.env = .busClose .ok :: rest → exec .closeBus s = .next
        { s with
          phase := .failed, busH := .released, outcome := some (.fail e s.secErr), env := rest
          trace := s.trace ++ [.busClose .ok] }) ∧
      (s.err = none → s.env = .busClose (.fault .ioFault) :: rest → exec .closeBus s = .next
        { s with
          phase := .failed, busH := .released, err := some fresh, outcome := some (.fail fresh s.secErr)
          env := rest
          trace := s.trace ++ [.busClose (.fault .ioFault)] }) ∧
      (∀ e, s.err = some e → s.env = .busClose (.fault .ioFault) :: rest → exec .closeBus s = .next
        { s with
          phase := .failed, busH := .released, secErr := s.secErr ++ [fresh]
          outcome := some (.fail e (s.secErr ++ [fresh])), env := rest
          trace := s.trace ++ [.busClose (.fault .ioFault)] }))

/-! ### Which operation runs -/

/-- R100, R181 (log 3): in each non-terminal phase other than IDLE the machine's step is the SEQ step of that name,
whatever the host has issued; IDLE, DONE and FAILED have no SEQ step, and only START and TAKE leave them (R101, which
the spec marks as its own inference). -/
def Obligations.PhaseSelectsStep : Prop :=
  ∀ s : State,
    (s.phase = .openBus → step s = exec .openBus s) ∧ (s.phase = .openSig → step s = exec .openSig s) ∧
    (s.phase = .frame → step s = exec .frame s) ∧ (s.phase = .cmdXfer → step s = exec .cmdXfer s) ∧
    (s.phase = .cmdWait → step s = exec .cmdWait s) ∧ (s.phase = .lenXfer → step s = exec .lenXfer s) ∧
    (s.phase = .blkWait → step s = exec .blkWait s) ∧ (s.phase = .blkXfer → step s = exec .blkXfer s) ∧
    (s.phase = .closeSig → step s = exec .closeSig s) ∧ (s.phase = .closeBus → step s = exec .closeBus s) ∧
    (∀ i t, s.phase = .idle ∨ s.phase = .done ∨ s.phase = .failed → exec i s = .next t → t.phase ≠ s.phase →
      (∃ c, i = .start c ∨ i = .runAcquisition c) ∨ i = .take)

/-- R100, R101 (log 15): a SEQ step has no step in another phase. -/
def Obligations.SeqStepsOnlyInTheirPhase : Prop :=
  ∀ (i : Instr) (p : Phase) (s : State), seqOperation p = some i → s.phase ≠ p →
    ∃ m, exec i s = .refused (.notEnabled m s.phase)

/-- A step runs the decoded operation (log 2, log 3): in IDLE, DONE and FAILED, with no call to take, the machine runs
the operation at the head of the host's port and removes its bytes. -/
def Obligations.StepRunsDecodedOperation : Prop :=
  ∀ (s : State) (i : Instr) (rest : List Byte), s.phase = .idle ∨ s.phase = .done ∨ s.phase = .failed →
    s.call = false ∨ s.phase = .idle → decode s.port = .ok (i, rest) →
    step s = exec i { s with port := rest }

/-- R104 (log 16, log 19): where no SEQ step and no call to take is due, an empty port leaves the machine as it is, and
bytes that are no operation are refused. -/
def Obligations.StepWithoutOperation : Prop :=
  ∀ s : State, s.phase = .idle ∨ s.phase = .done ∨ s.phase = .failed →
    s.call = false ∨ s.phase = .idle →
    (s.port = [] → step s = .next s) ∧
    (∀ e, s.port ≠ [] → decode s.port = .error e → step s = .refused (.undecodable e))

/-! ### The collaborator requests as operations -/

/-- R241, R245, R253 (log 11): BUS_OPEN is issued only by OPEN_BUS and SIG_OPEN only by OPEN_SIG. There the operation is
the machine's step: on `ok` the SEQ owns the handle, on a fault the error is recorded. Elsewhere it has no step. -/
def Obligations.OpenRequestOutcome : Prop :=
  ∀ s : State, Instr.busOpen.opCode = 0x40 ∧ Instr.sigOpen.opCode = 0x48 ∧
    (s.phase = .openBus → exec .busOpen s = step s) ∧
    (s.phase ≠ .openBus → exec .busOpen s = .refused (.notEnabled "BUS_OPEN" s.phase)) ∧
    (s.phase = .openSig → exec .sigOpen s = step s) ∧
    (s.phase ≠ .openSig → exec .sigOpen s = .refused (.notEnabled "SIG_OPEN" s.phase)) ∧
    (∀ rest, s.pending = none →
      (∀ h, s.phase = .openBus → s.env = .busOpen (.ok h) :: rest → exec .busOpen s = .next
        { s with
          phase := .openSig, busH := .opened h, env := rest
          trace := s.trace ++ [.busOpen s.params.busId s.params.deviceId s.params.clockHz .ok] }) ∧
      (∀ h, s.phase = .openSig → s.env = .sigOpen (.ok h) :: rest → exec .sigOpen s = .next
        { s with phase := .frame, sigH := .opened h, env := rest, trace := s.trace ++ [.sigOpen s.params.pinId .ok] }) ∧
      (∀ c, c = .noDevice ∨ c = .ioFault → s.err = none →
        (s.phase = .openBus → s.env = .busOpen (.fault c) :: rest → exec .busOpen s = .next
          { s with
            phase := .closeSig, err := some ⟨.transport c, .openBus, s.blkIdx, .request .busOpen⟩
            env := rest
            trace := s.trace ++ [.busOpen s.params.busId s.params.deviceId s.params.clockHz (.fault c)] }) ∧
        (s.phase = .openSig → s.env = .sigOpen (.fault c) :: rest → exec .sigOpen s = .next
          { s with
            phase := .closeSig, err := some ⟨.transport c, .openSig, s.blkIdx, .request .sigOpen⟩
            env := rest
            trace := s.trace ++ [.sigOpen s.params.pinId (.fault c)] })))

/-- R242, R243, R253 (log 11): BUS_TRANSFER is issued only by CMD_XFER, LEN_XFER and BLK_XFER, on the bus handle and
with the bytes of the phase. There the operation is the machine's step, which appends the event with the bytes received,
of any length, or raises a fault that the contract allows. Elsewhere, or with other operands, it has no step. -/
def Obligations.TransferRequestOutcome : Prop :=
  ∀ (s : State) (h : Handle), (∀ out, (Instr.busTransfer h out).opCode = 0x41) ∧
    (∀ p site out,
      (p, site, out) ∈ [(Phase.cmdXfer, RequestSite.cmdXfer, s.frameBytes),
        (.lenXfer, .lenXfer, [s.params.handshakeFill.1, s.params.handshakeFill.2]),
        (.blkXfer, .blkXfer, List.replicate s.blockLen 0)] →
      s.phase = p → s.busH = .opened h →
      exec (.busTransfer h out) s = step s ∧
      (∀ b rest, s.pending = none → s.env = .xfer (.ok b) :: rest → ∃ t,
        exec (.busTransfer h out) s = .next t ∧ t.trace = s.trace ++ [.xfer out (.ok b)] ∧ t.env = rest ∧
        t.pending = none ∧ t.busH = s.busH ∧ (p ≠ .cmdXfer → t.rx = some b) ∧
        (p = .cmdXfer → t = { s with phase := .cmdWait, env := rest, trace := s.trace ++ [.xfer out (.ok b)] })) ∧
      (∀ c rest, c = .ioFault ∨ (c = .xferTimeout ∧ s.params.xferTimeout ≠ none) ∨
          (c = .cancelled ∧ s.params.cancellable = true) → s.err = none → s.pending = none →
        s.env = .xfer (.fault c) :: rest → exec (.busTransfer h out) s = .next
          { s with
            phase := .closeSig, err := some ⟨.transport c, p, s.blkIdx, .request site⟩
            env := rest
            trace := s.trace ++ [.xfer out (.fault c)] })) ∧
    (∀ out, s.busH.handle ≠ h ∨
        (s.phase = .cmdXfer → out ≠ s.frameBytes) ∧
        (s.phase = .lenXfer → out ≠ [s.params.handshakeFill.1, s.params.handshakeFill.2]) ∧
        (s.phase = .blkXfer → out ≠ List.replicate s.blockLen 0) →
      exec (.busTransfer h out) s = .refused (.notEnabled "BUS_TRANSFER" s.phase))

/-- R246, R247, R248, R250, R253 (log 7, log 11): SIG_WAIT is issued only by CMD_WAIT and BLK_WAIT, on the signal
handle. There the operation is the machine's step: it completes on a transition of the line, under LEVEL on a line
already high, or raises a fault that the contract allows. Elsewhere, or on another handle, it has no step. -/
def Obligations.WaitRequestOutcome : Prop :=
  ∀ (s : State) (h : Handle), (Instr.sigWait h).opCode = 0x49 ∧
    (∀ p next site, (p, next, site) ∈ [(Phase.cmdWait, Phase.lenXfer, RequestSite.cmdWait),
        (.blkWait, .blkXfer, .blkWait)] → s.phase = p → s.sigH = .opened h →
      exec (.sigWait h) s = step s ∧
      (∀ rest, s.pending = none → s.readyLine = false → s.env = .line true :: .wait .active :: rest →
        exec (.sigWait h) s = .next
          { s with
            phase := next, readyLine := true, readySeen := true, env := rest
            trace := s.trace ++ [.wait .active] }) ∧
      (∀ rest, s.pending = none → s.params.readySense = .level → s.readyLine = true → s.env = .wait .active :: rest →
        exec (.sigWait h) s = .next
          { s with phase := next, readySeen := true, env := rest, trace := s.trace ++ [.wait .active] }) ∧
      (∀ c rest, c = .ioFault ∨ (c = .waitTimeout ∧ s.params.readyTimeout ≠ none) ∨
          (c = .cancelled ∧ s.params.cancellable = true) → s.err = none → s.pending = none →
        s.env = .wait (.fault c) :: rest → exec (.sigWait h) s = .next
          { s with
            phase := .closeSig, err := some ⟨.transport c, p, s.blkIdx, .request site⟩
            readySeen := s.params.readySense == .level && s.readyLine, env := rest
            trace := s.trace ++ [.wait (.fault c)] })) ∧
    (s.sigH.handle ≠ h ∨ (s.phase ≠ .cmdWait ∧ s.phase ≠ .blkWait) →
      exec (.sigWait h) s = .refused (.notEnabled "SIG_WAIT" s.phase))

/-- R244, R249, R253 (log 11): BUS_CLOSE is issued only by CLOSE_BUS, only on the handle `bus_h` holds open, and
SIG_CLOSE only by CLOSE_SIG, only on the handle `sig_h` holds open. There the operation is the machine's step, and the
handle is released whatever the response. Elsewhere, or on another handle, it has no step. -/
def Obligations.CloseRequestOutcome : Prop :=
  ∀ (s : State) (h : Handle), (Instr.busClose h).opCode = 0x42 ∧ (Instr.sigClose h).opCode = 0x4A ∧
    (s.phase = .closeBus → s.busH = .opened h → exec (.busClose h) s = step s ∧
      ∀ r rest, r = .ok ∨ r = .fault .ioFault → s.pending = none → s.env = .busClose r :: rest → ∃ t,
        exec (.busClose h) s = .next t ∧ t.busH = .released ∧ t.sigH = s.sigH ∧ t.env = rest ∧ t.pending = none ∧
        t.trace = s.trace ++ [.busClose r] ∧
        (t.phase = .done ↔ s.err = none ∧ r = .ok) ∧ (t.phase = .failed ↔ ¬ (s.err = none ∧ r = .ok))) ∧
    (s.phase ≠ .closeBus ∨ s.busH ≠ .opened h →
      exec (.busClose h) s = .refused (.notEnabled "BUS_CLOSE" s.phase)) ∧
    (s.phase = .closeSig → s.sigH = .opened h → exec (.sigClose h) s = step s ∧
      ∀ r rest, r = .ok ∨ r = .fault .ioFault → s.pending = none → s.env = .sigClose r :: rest → ∃ t,
        exec (.sigClose h) s = .next t ∧ t.sigH = .released ∧ t.busH = s.busH ∧ t.env = rest ∧ t.pending = none ∧
        t.trace = s.trace ++ [.sigClose r] ∧ t.phase = .closeBus ∧
        (t.err = none ↔ s.err = none ∧ r = .ok)) ∧
    (s.phase ≠ .closeSig ∨ s.sigH ≠ .opened h →
      exec (.sigClose h) s = .refused (.notEnabled "SIG_CLOSE" s.phase))

/-! ### Waiting -/

/-- R246, R315 (log 7, log 11, log 13): under EDGE no wait of a session is completed while the line does not go from low
to high after the wait was issued, whatever its level: CMD_WAIT's or BLK_WAIT's wait, issued by this step or outstanding
with its detector clear, stays outstanding (log 13) or reports a fault. SIG_WAIT as an operation is the same step (log
11). -/
def Obligations.EdgeWaitNeedsTransition : Prop :=
  ∀ s : State, s.params.readySense = .edge → s.phase = .cmdWait ∨ s.phase = .blkWait →
    (s.pending = some (.sigWait s.sigH.handle) → s.readySeen = false) → lineRises s.readyLine s.env = false →
    exec (.sigWait s.sigH.handle) s = step s ∧ ∃ t, step s = .next t ∧
      ((t.trace = s.trace ∧ t.phase = s.phase ∧ t.pending = some (.sigWait s.sigH.handle)) ∨
        ∃ c, t.trace = s.trace ++ [.wait (.fault c)] ∧ t.phase = .closeSig ∧ t.pending = none)

/-- R240, R246, R294 (log 5, log 7, log 13): a suspended request goes on as the same request. A suspended wait is
completed by the collaborator's `active` once a transition has been seen since it was issued, before this step or in it,
whatever the line's level is by then, and fails with a fault the contract allows; for any other request being
outstanding makes no difference to the step. -/
def Obligations.SuspendedRequestGoesOn : Prop :=
  (∀ (s : State) (rest : List EnvEvent) (p next : Phase) (site : RequestSite),
    (p, next, site) ∈ [(Phase.cmdWait, Phase.lenXfer, RequestSite.cmdWait), (.blkWait, .blkXfer, .blkWait)] →
    s.phase = p → s.pending = some (.sigWait s.sigH.handle) →
    (s.readySeen = true → s.env = .wait .active :: rest → step s = .next
      { s with phase := next, pending := none, env := rest, trace := s.trace ++ [.wait .active] }) ∧
    (s.readySeen = false → s.readyLine = false → s.env = .line true :: .wait .active :: rest → step s = .next
      { s with
        phase := next, pending := none, readyLine := true, readySeen := true, env := rest
        trace := s.trace ++ [.wait .active] }) ∧
    (s.readySeen = false → s.env = .line false :: .line true :: .wait .active :: rest → step s = .next
      { s with
        phase := next, pending := none, readyLine := true, readySeen := true, env := rest
        trace := s.trace ++ [.wait .active] }) ∧
    (∀ c, c = .ioFault ∨ (c = .waitTimeout ∧ s.params.readyTimeout ≠ none) ∨
        (c = .cancelled ∧ s.params.cancellable = true) → s.err = none → s.env = .wait (.fault c) :: rest →
      step s = .next
        { s with
          phase := .closeSig, pending := none, env := rest
          err := some ⟨.transport c, p, s.blkIdx, .request site⟩
          trace := s.trace ++ [.wait (.fault c)] })) ∧
  (∀ (s : State) (req : Request), requestOfPhase s = some req → req.isWait = false →
    step { s with pending := some req } = step { s with pending := none })

/-- R294, R295 (log 5, log 13): a request whose collaborator never responds suspends the session for ever: the step
changes no register, consumes only the line's changes, and the next step changes nothing at all. -/
def Obligations.UnansweredRequestHangs : Prop :=
  ∀ (s : State) (req : Request), requestOfPhase s = some req → (∀ e ∈ s.env, ∃ level, e = .line level) →
    ∃ t, step s = .next t ∧ step t = .next t ∧
      t = { s with env := [], readyLine := t.readyLine, readySeen := t.readySeen, pending := some req }

/-! ### Errors -/

/-- R277: the error entry. -/
def Obligations.ErrorEntry : Prop :=
  ∀ (s : State) (c : Cause) (info : ErrInfo),
    (s.err = none → s.raise c info = { s with err := some ⟨c, s.phase, s.blkIdx, info⟩, phase := .closeSig }) ∧
    (∀ e, s.err = some e →
      s.raise c info = { s with secErr := s.secErr ++ [⟨c, s.phase, s.blkIdx, info⟩], phase := .closeSig })

/-- R271: the kind and cause codes. -/
def Obligations.ErrorCodes : Prop :=
  [ErrKind.frameBuildError, .transportError, .decodeError, .codecShapeFault].map ErrKind.code = [1, 2, 3, 4] ∧
  [Cause.fbRange, .transport .noDevice, .transport .ioFault, .transport .xferTimeout, .transport .waitTimeout,
    .transport .cancelled, .deLenSize, .deBlkAlign, .deBlkSize, .csShape].map Cause.code =
      [0x11, 0x21, 0x22, 0x23, 0x24, 0x25, 0x31, 0x32, 0x33, 0x41] ∧
  [Cause.fbRange, .transport .noDevice, .transport .ioFault, .transport .xferTimeout, .transport .waitTimeout,
    .transport .cancelled, .deLenSize, .deBlkAlign, .deBlkSize, .csShape].map (fun c => c.kind.code) =
      [1, 2, 2, 2, 2, 2, 3, 3, 3, 4]

/-- R281, R284 (log 13): inside a session every step goes on: no SEQ step faults and none is refused. -/
def Obligations.SessionStepsGoOn : Prop :=
  ∀ s : State, s.isBusy = true → ∃ t, step s = .next t

/-! ### Reset -/

/-- R310 with the table of R44: power-on reset puts the SEQ in IDLE and every other register at its reset value; no
request is outstanding and no handle is open. -/
def Obligations.ResetRegisters : Prop :=
  ∀ s : State, s = State.reset → s.phase = .idle ∧ s.cfg = none ∧ s.frame = none ∧ s.lenWord = none ∧ s.blkLen = none ∧
    s.blkIdx = 0 ∧ s.rx = none ∧ s.ch1 = [] ∧ s.ch2 = [] ∧ s.busH = .none ∧ s.sigH = .none ∧ s.err = none ∧
    s.secErr = [] ∧ s.outcome = none ∧ s.trace = [] ∧ s.pending = none

/-- The reset state meets the invariants that every step keeps. -/
def Obligations.ResetMeetsInvariants : Prop :=
  SessionInv State.reset ∧ TraceFollowsPhase State.reset ∧ ReleasesMatch State.reset ∧ ResponsesAllowed State.reset

/-! ### Invariants and what a step can do -/

/-- R29, R30, R31, R32, R34, R38, R240: every step, of the SEQ or of the host, keeps the session invariant. -/
def Obligations.StepKeepsSessionInvariant : Prop :=
  ∀ s t : State, SessionInv s → step s = .next t → SessionInv t

/-- R181, R208: every step keeps the trace in the order of the phases. -/
def Obligations.StepKeepsTraceOrder : Prop :=
  ∀ s t : State, SessionInv s → TraceFollowsPhase s → step s = .next t → TraceFollowsPhase t

/-- R181, R183 to R194 (R202, which the spec marks as its own inference): the step that ends a session in DONE leaves a
trace of `7 + 2N` events that asked for BusOpen, SigOpen, Xfer(frame), Wait, Xfer(2), then Wait, Xfer(4L) for each of
the `N = num_cpi` blocks, SigClose, BusClose. -/
def Obligations.SuccessfulSessionTrace : Prop :=
  ∀ s t : State, SessionInv s → TraceFollowsPhase s → s.phase = .closeBus → step s = .next t → t.phase = .done →
    t.asked = [.busOpen, .sigOpen, .xfer t.frameBytes, .wait, .xfer (handshakeBytes t.params)] ++
      (List.replicate t.config.numCpi [.wait, .xfer (List.replicate t.blockLen 0)]).flatten ++ [.sigClose, .busClose] ∧
    t.trace.length = 7 + 2 * t.config.numCpi ∧ t.asked.count .wait = 1 + t.config.numCpi ∧
    t.outcome = some (.ok t.ch1 t.ch2) ∧ t.ch1.length = t.config.numCpi ∧ t.ch2.length = t.config.numCpi

/-- R241, R244, R245, R249, R282: every step, in a session and outside one, keeps the handles' opens and closes in the
trace in step with the handle registers: each handle is opened at most once and closed at most once. -/
def Obligations.StepKeepsReleasesMatch : Prop :=
  ∀ s t : State, HandlesFollowPhase s → ReleasesMatch s → step s = .next t → HandlesFollowPhase t ∧ ReleasesMatch t

/-- R282, R323: when a session ends, each handle that was opened has been closed exactly once, one that was never opened
has not been closed, and none is open. -/
def Obligations.EveryOpenedHandleClosedOnce : Prop :=
  ∀ s t : State, HandlesFollowPhase s → ReleasesMatch s → s.phase = .closeBus → step s = .next t →
    t.phase = .done ∨ t.phase = .failed →
    t.busCloses = t.busOpens ∧ t.busOpens ≤ 1 ∧ t.sigCloses = t.sigOpens ∧ t.sigOpens ≤ 1 ∧
    (∀ h, t.busH ≠ .opened h ∧ t.sigH ≠ .opened h)

/-- R241 to R250, R273: every step keeps the trace free of responses that the parameters do not allow. -/
def Obligations.StepKeepsResponsesAllowed : Prop :=
  ∀ s t : State, ResponsesAllowed s → step s = .next t → ResponsesAllowed t

/-- R313 (log 8): no step writes the parameters. -/
def Obligations.ParametersNeverWritten : Prop :=
  ∀ s t : State, step s = .next t → t.params = s.params

/-- R167, R320: no step of a session changes `cfg`, and none but FRAME's changes `frame`. -/
def Obligations.ConfigurationLatched : Prop :=
  ∀ s t : State, s.isBusy = true → step s = .next t → t.cfg = s.cfg ∧ (s.phase ≠ .frame → t.frame = s.frame)

/-- R36, R208, R240: a step of a session appends at most one event to the trace, and one that leaves a request
outstanding appends none; outside a session no step appends an event, and only START's, which clears it, changes the
trace. -/
def Obligations.TraceGrowsByOneEvent : Prop :=
  ∀ s t : State, step s = .next t →
    (s.isBusy = true → t.trace = s.trace ∨ ∃ e, t.trace = s.trace ++ [e] ∧ t.pending = none) ∧
    (s.isBusy = false → t.trace = s.trace ∨ (t.trace = [] ∧ s.phase = .idle ∧ t.phase = .openBus))

/-- R32, R280: in a session the first error stays the session's error, and secondary errors are only added. -/
def Obligations.FirstErrorStays : Prop :=
  ∀ (s t : State) (e : ErrRec), s.isBusy = true → s.err = some e → step s = .next t →
    t.err = some e ∧ s.secErr <+: t.secErr

/-- R29, R40, R191: in a session the accumulators and the counter change only in BLK_XFER, by one sample set a channel
and one block. -/
def Obligations.AccumulatorsGrowByBlocks : Prop :=
  ∀ s t : State, s.isBusy = true → step s = .next t →
    (t.ch1 = s.ch1 ∧ t.ch2 = s.ch2 ∧ t.blkIdx = s.blkIdx) ∨
    (s.phase = .blkXfer ∧ ∃ x y b, t.rx = some b ∧ decodeStream b = some (x, y) ∧ t.ch1 = s.ch1 ++ [x] ∧
      t.ch2 = s.ch2 ++ [y] ∧ t.blkIdx = s.blkIdx + 1)

/-- R181 (log 13, log 19): the transition table. A step stays in its phase, which in a session it does only with its
request outstanding (log 13) and outside one where nothing changes the phase (log 19), or goes on as the table says: to
the next phase, to CLOSE_SIG with an error where the phase raises, to the session's end. -/
def Obligations.PhaseTransitions : Prop :=
  ∀ s t : State, step s = .next t →
    (t.phase = s.phase ∧ (s.isBusy = true → t.pending ≠ none)) ∨
    (s.phase, t.phase) ∈ [(Phase.idle, Phase.openBus), (.openBus, .openSig), (.openSig, .frame), (.frame, .cmdXfer),
      (.cmdXfer, .cmdWait), (.cmdWait, .lenXfer), (.blkWait, .blkXfer), (.closeSig, .closeBus), (.done, .idle),
      (.failed, .idle)] ∨
    (s.phase = .lenXfer ∧ t.phase = (if 0 < t.config.numCpi then .blkWait else .closeSig)) ∨
    (s.phase = .blkXfer ∧ t.phase = (if t.blkIdx < t.config.numCpi then .blkWait else .closeSig)) ∨
    (s.phase.raises = true ∧ t.phase = .closeSig ∧ t.err ≠ none) ∨
    (s.phase = .closeBus ∧ t.phase = (if t.err = none then .done else .failed))

/-! ### Encoding -/

/-- R99 (log 1): decoding the bytes of any operation, whatever follows them, gives the operation and what follows. -/
def Obligations.DecodeEncodeRoundTrip : Prop :=
  ∀ (i : Instr) (rest : List Byte), decode (encode i ++ rest) = .ok (i, rest)

/-- R99 (log 1): every operation's bytes, written out from its code and, in the layout of log 1, its operands. -/
def Obligations.WrittenOutBytesDecode : Prop :=
  decode [0x01, 0x03, 0x04] = .ok (.combine 0x03 0x04, []) ∧
  decode [0x02, 0x34, 0x12] = .ok (.split 0x1234, []) ∧
  decode [0x03, 0x00, 2, 1, 4, 3] = .ok (.decodeBlock [2, 1, 4, 3], []) ∧
  decode [0x04, 0x04, 0x02, 0x01, 0x04, 0x03] = .ok (.decodeStream [2, 1, 4, 3], []) ∧
  decode [0x05, 0xEF, 0xBE, 0x34, 0x12] = .ok (.encodeBlock 0xBEEF 0x1234, []) ∧
  decode [0x06, 0x01, 0x04, 0x03, 0x01, 0xFF, 0x01] = .ok (.encodeStream [0x0304] [0x01FF], []) ∧
  decode [0x10, 1, 2, 3, 4, 5, 6, 0xB4, 0x24] = .ok (.buildFrame ⟨1, 2, 3, 4, 5, 6, 0x1234⟩, []) ∧
  decode [0x20, 1, 2, 3, 4, 5, 6, 0x7F] = .ok (.start ⟨1, 2, 3, 4, 5, 6, 127⟩, []) ∧
  decode [0x21] = .ok (.openBus, []) ∧ decode [0x22] = .ok (.openSig, []) ∧ decode [0x23] = .ok (.frame, []) ∧
  decode [0x24] = .ok (.cmdXfer, []) ∧ decode [0x25] = .ok (.cmdWait, []) ∧ decode [0x26] = .ok (.lenXfer, []) ∧
  decode [0x27] = .ok (.blkWait, []) ∧ decode [0x28] = .ok (.blkXfer, []) ∧ decode [0x29] = .ok (.closeSig, []) ∧
  decode [0x2A] = .ok (.closeBus, []) ∧ decode [0x2B] = .ok (.take, []) ∧
  decode [0x30, 1, 2, 3, 4, 5, 6, 7] = .ok (.runAcquisition ⟨1, 2, 3, 4, 5, 6, 7⟩, []) ∧
  decode [0x40] = .ok (.busOpen, []) ∧ decode [0x41, 0x07, 0x02, 0xAA, 0xBB] = .ok (.busTransfer 7 [0xAA, 0xBB], []) ∧
  decode [0x42, 0x81, 0x01] = .ok (.busClose 129, []) ∧ decode [0x48] = .ok (.sigOpen, []) ∧
  decode [0x49, 0x07] = .ok (.sigWait 7, []) ∧ decode [0x4A, 0x08] = .ok (.sigClose 8, [])

/-- R104: a code not listed in R99 names no operation. -/
def Obligations.UnlistedCodesRefused : Prop :=
  ∀ (b : Byte) (bs : List Byte), b.toNat ∉ [0x01, 0x02, 0x03, 0x04, 0x05, 0x06, 0x10, 0x20, 0x21, 0x22, 0x23, 0x24, 0x25,
      0x26, 0x27, 0x28, 0x29, 0x2A, 0x2B, 0x30, 0x40, 0x41, 0x42, 0x48, 0x49, 0x4A] →
    decode (b :: bs) = .error (.unknownOperation b)

/-! ### The whole session -/

/-- R198, R199, R200 (log 1, log 2, log 5, log 12): RUN_ACQUISITION, its bytes in the port, of a record in range, in an
environment that opens both collaborators, answers every wait after a pulse, announces `L` and returns `num_cpi` blocks
of `4L` bytes, returns after `10 + 2 num_cpi` steps the two channels: one sample set a block and channel, set `i`
decoded from block `i`. -/
def Obligations.RunReturnsDecodedBlocks : Prop :=
  ∀ (s : State) (c : AcqConfig) (h g : Handle) (x : List Byte) (len : U16) (blocks : List (List Byte)),
    s.phase = .idle → s.pending = none → s.readyLine = false → s.port = encode (.runAcquisition c) →
    c.inRange = true → c.numCpi = blocks.length → (∀ b ∈ blocks, b.length = 4 * len.toNat) →
    s.env = sessionScript h g x len blocks →
    ∃ (sets : List (List U16 × List U16)) (t : State), blocks.map decodeStream = sets.map some ∧
      Host.Core.run Sys2Proof.core (10 + 2 * blocks.length) s = .next t ∧ t.phase = .idle ∧
      t.result = some (.acquired (sets.map Prod.fst) (sets.map Prod.snd)) ∧
      t.trace.length = 7 + 2 * blocks.length ∧ t.busH = .released ∧ t.sigH = .released
end

