-- ==== Sys2Proof/Laws/Operands.lean ====
section
/-! SUPPORT. What the lane, group and frame functions compute. -/

namespace Sys2Proof.Machine

theorem combine_toNat (u l : Byte) : (combine u l).toNat = 256 * u.toNat + l.toNat := by
  have hu := u.isLt
  have hl := l.isLt
  have hm : (u.toNat <<< 8) % 65536 = u.toNat <<< 8 := by rw [Nat.shiftLeft_eq]; omega
  have hc : (combine u l).toNat = (u.toNat <<< 8) % 65536 ||| l.toNat := by
    simp [combine, Nat.mod_eq_of_lt (show u.toNat < 65536 by omega), Nat.mod_eq_of_lt (show l.toNat < 65536 by omega)]
  rw [hc, hm, ← Nat.shiftLeft_add_eq_or_of_lt hl, Nat.shiftLeft_eq]
  omega

theorem lowerLane_toNat (v : U16) : (lowerLane v).toNat = v.toNat % 256 := by
  have h : (lowerLane v).toNat = v.toNat % 256 &&& 255 := by simp [lowerLane]
  rw [h, Nat.and_two_pow_sub_one_eq_mod (v.toNat % 256) 8]
  omega

theorem upperLane_toNat (v : U16) : (upperLane v).toNat = v.toNat / 256 := by
  have hv := v.isLt
  have h : (upperLane v).toNat = v.toNat / 256 % 256 &&& 255 := by
    simp [upperLane, Nat.shiftRight_eq_div_pow]
  rw [h, Nat.and_two_pow_sub_one_eq_mod (v.toNat / 256 % 256) 8]
  omega

theorem groupsOf_length : ∀ (n : Nat) (b : List Byte), b.length = 4 * n → (groupsOf b).length = n
  | 0, b, h => by
    have : b = [] := List.length_eq_zero_iff.mp (by omega)
    simp [this, groupsOf]
  | n + 1, b, h => by
    match b, h with
    | g0 :: g1 :: g2 :: g3 :: rest, h =>
      simp only [groupsOf, List.length_cons]
      rw [groupsOf_length n rest (by simp at h; omega)]

/-- The framer's two results under VALIDATE, and its one under TRUNCATE. -/
theorem buildFrame_validate (c : AcqConfig) :
    (firstOutOfRange c = none ∧ buildFrame .validate c = .ok (assembleFrame c)) ∨
      ∃ bad, firstOutOfRange c = some bad ∧ buildFrame .validate c = .error bad := by
  unfold buildFrame
  cases h : firstOutOfRange c with
  | none => exact .inl ⟨rfl, by simp⟩
  | some bad => exact .inr ⟨bad, rfl, by simp⟩

end Sys2Proof.Machine
end

