-- ==== Sys2Proof/Laws/PerInstr.lean ====
section
/-! SUPPORT. The per-operation family OpCodeFirst: an operation's bytes begin with its code, which the operation map
knows. -/

namespace Sys2Proof.Laws.OpCodeFirst

/-- The first byte of an operation is its code of R99, and the decoder knows an operand reader for it. -/
def Statement (i : Instr) : Prop := (encode i).head? = some i.opCode ∧ (operandReader i.opCode.toNat).isSome = true

theorem combine (u l : Byte) : Statement (.combine u l) := ⟨rfl, rfl⟩
theorem split (v : U16) : Statement (.split v) := ⟨rfl, rfl⟩
theorem decodeBlock (g : List Byte) : Statement (.decodeBlock g) := ⟨rfl, rfl⟩
theorem decodeStream (b : List Byte) : Statement (.decodeStream b) := ⟨rfl, rfl⟩
theorem encodeBlock (x y : U16) : Statement (.encodeBlock x y) := ⟨rfl, rfl⟩
theorem encodeStream (x y : List U16) : Statement (.encodeStream x y) := ⟨rfl, rfl⟩
theorem buildFrame (c : AcqConfig) : Statement (.buildFrame c) := ⟨rfl, rfl⟩
theorem start (c : AcqConfig) : Statement (.start c) := ⟨rfl, rfl⟩
theorem openBus : Statement .openBus := ⟨rfl, rfl⟩
theorem openSig : Statement .openSig := ⟨rfl, rfl⟩
theorem frame : Statement .frame := ⟨rfl, rfl⟩
theorem cmdXfer : Statement .cmdXfer := ⟨rfl, rfl⟩
theorem cmdWait : Statement .cmdWait := ⟨rfl, rfl⟩
theorem lenXfer : Statement .lenXfer := ⟨rfl, rfl⟩
theorem blkWait : Statement .blkWait := ⟨rfl, rfl⟩
theorem blkXfer : Statement .blkXfer := ⟨rfl, rfl⟩
theorem closeSig : Statement .closeSig := ⟨rfl, rfl⟩
theorem closeBus : Statement .closeBus := ⟨rfl, rfl⟩
theorem take : Statement .take := ⟨rfl, rfl⟩
theorem runAcquisition (c : AcqConfig) : Statement (.runAcquisition c) := ⟨rfl, rfl⟩
theorem busOpen : Statement .busOpen := ⟨rfl, rfl⟩
theorem busTransfer (h : Handle) (out : List Byte) : Statement (.busTransfer h out) := ⟨rfl, rfl⟩
theorem busClose (h : Handle) : Statement (.busClose h) := ⟨rfl, rfl⟩
theorem sigOpen : Statement .sigOpen := ⟨rfl, rfl⟩
theorem sigWait (h : Handle) : Statement (.sigWait h) := ⟨rfl, rfl⟩
theorem sigClose (h : Handle) : Statement (.sigClose h) := ⟨rfl, rfl⟩

end Sys2Proof.Laws.OpCodeFirst
end

