-- ==== Sys2Proof/Laws/State.lean ====
section
/-! SUPPORT. One lemma per field per named update of State, each true by unfolding the update once. -/

namespace Sys2Proof.Machine

variable (s : State)

/-! ### goto -/

@[simp] theorem State.goto_phase (p : Phase) : (s.goto p).phase = p := rfl
@[simp] theorem State.goto_cfg (p : Phase) : (s.goto p).cfg = s.cfg := rfl
@[simp] theorem State.goto_frame (p : Phase) : (s.goto p).frame = s.frame := rfl
@[simp] theorem State.goto_lenWord (p : Phase) : (s.goto p).lenWord = s.lenWord := rfl
@[simp] theorem State.goto_blkLen (p : Phase) : (s.goto p).blkLen = s.blkLen := rfl
@[simp] theorem State.goto_blkIdx (p : Phase) : (s.goto p).blkIdx = s.blkIdx := rfl
@[simp] theorem State.goto_rx (p : Phase) : (s.goto p).rx = s.rx := rfl
@[simp] theorem State.goto_ch1 (p : Phase) : (s.goto p).ch1 = s.ch1 := rfl
@[simp] theorem State.goto_ch2 (p : Phase) : (s.goto p).ch2 = s.ch2 := rfl
@[simp] theorem State.goto_busH (p : Phase) : (s.goto p).busH = s.busH := rfl
@[simp] theorem State.goto_sigH (p : Phase) : (s.goto p).sigH = s.sigH := rfl
@[simp] theorem State.goto_err (p : Phase) : (s.goto p).err = s.err := rfl
@[simp] theorem State.goto_secErr (p : Phase) : (s.goto p).secErr = s.secErr := rfl
@[simp] theorem State.goto_outcome (p : Phase) : (s.goto p).outcome = s.outcome := rfl
@[simp] theorem State.goto_trace (p : Phase) : (s.goto p).trace = s.trace := rfl
@[simp] theorem State.goto_readyLine (p : Phase) : (s.goto p).readyLine = s.readyLine := rfl
@[simp] theorem State.goto_readySeen (p : Phase) : (s.goto p).readySeen = s.readySeen := rfl
@[simp] theorem State.goto_pending (p : Phase) : (s.goto p).pending = s.pending := rfl
@[simp] theorem State.goto_params (p : Phase) : (s.goto p).params = s.params := rfl
@[simp] theorem State.goto_env (p : Phase) : (s.goto p).env = s.env := rfl
@[simp] theorem State.goto_port (p : Phase) : (s.goto p).port = s.port := rfl
@[simp] theorem State.goto_call (p : Phase) : (s.goto p).call = s.call := rfl
@[simp] theorem State.goto_result (p : Phase) : (s.goto p).result = s.result := rfl
@[simp] theorem State.goto_config (p : Phase) : (s.goto p).config = s.config := rfl
@[simp] theorem State.goto_frameBytes (p : Phase) : (s.goto p).frameBytes = s.frameBytes := rfl
@[simp] theorem State.goto_blockLen (p : Phase) : (s.goto p).blockLen = s.blockLen := rfl

/-! ### answer -/

@[simp] theorem State.answer_phase (r : Result) : (s.answer r).phase = s.phase := rfl
@[simp] theorem State.answer_cfg (r : Result) : (s.answer r).cfg = s.cfg := rfl
@[simp] theorem State.answer_frame (r : Result) : (s.answer r).frame = s.frame := rfl
@[simp] theorem State.answer_lenWord (r : Result) : (s.answer r).lenWord = s.lenWord := rfl
@[simp] theorem State.answer_blkLen (r : Result) : (s.answer r).blkLen = s.blkLen := rfl
@[simp] theorem State.answer_blkIdx (r : Result) : (s.answer r).blkIdx = s.blkIdx := rfl
@[simp] theorem State.answer_rx (r : Result) : (s.answer r).rx = s.rx := rfl
@[simp] theorem State.answer_ch1 (r : Result) : (s.answer r).ch1 = s.ch1 := rfl
@[simp] theorem State.answer_ch2 (r : Result) : (s.answer r).ch2 = s.ch2 := rfl
@[simp] theorem State.answer_busH (r : Result) : (s.answer r).busH = s.busH := rfl
@[simp] theorem State.answer_sigH (r : Result) : (s.answer r).sigH = s.sigH := rfl
@[simp] theorem State.answer_err (r : Result) : (s.answer r).err = s.err := rfl
@[simp] theorem State.answer_secErr (r : Result) : (s.answer r).secErr = s.secErr := rfl
@[simp] theorem State.answer_outcome (r : Result) : (s.answer r).outcome = s.outcome := rfl
@[simp] theorem State.answer_trace (r : Result) : (s.answer r).trace = s.trace := rfl
@[simp] theorem State.answer_readyLine (r : Result) : (s.answer r).readyLine = s.readyLine := rfl
@[simp] theorem State.answer_readySeen (r : Result) : (s.answer r).readySeen = s.readySeen := rfl
@[simp] theorem State.answer_pending (r : Result) : (s.answer r).pending = s.pending := rfl
@[simp] theorem State.answer_params (r : Result) : (s.answer r).params = s.params := rfl
@[simp] theorem State.answer_env (r : Result) : (s.answer r).env = s.env := rfl
@[simp] theorem State.answer_port (r : Result) : (s.answer r).port = s.port := rfl
@[simp] theorem State.answer_call (r : Result) : (s.answer r).call = s.call := rfl
@[simp] theorem State.answer_result (r : Result) : (s.answer r).result = some r := rfl
@[simp] theorem State.answer_config (r : Result) : (s.answer r).config = s.config := rfl
@[simp] theorem State.answer_frameBytes (r : Result) : (s.answer r).frameBytes = s.frameBytes := rfl
@[simp] theorem State.answer_blockLen (r : Result) : (s.answer r).blockLen = s.blockLen := rfl

/-! ### emit -/

@[simp] theorem State.emit_phase (e : Event) : (s.emit e).phase = s.phase := rfl
@[simp] theorem State.emit_cfg (e : Event) : (s.emit e).cfg = s.cfg := rfl
@[simp] theorem State.emit_frame (e : Event) : (s.emit e).frame = s.frame := rfl
@[simp] theorem State.emit_lenWord (e : Event) : (s.emit e).lenWord = s.lenWord := rfl
@[simp] theorem State.emit_blkLen (e : Event) : (s.emit e).blkLen = s.blkLen := rfl
@[simp] theorem State.emit_blkIdx (e : Event) : (s.emit e).blkIdx = s.blkIdx := rfl
@[simp] theorem State.emit_rx (e : Event) : (s.emit e).rx = s.rx := rfl
@[simp] theorem State.emit_ch1 (e : Event) : (s.emit e).ch1 = s.ch1 := rfl
@[simp] theorem State.emit_ch2 (e : Event) : (s.emit e).ch2 = s.ch2 := rfl
@[simp] theorem State.emit_busH (e : Event) : (s.emit e).busH = s.busH := rfl
@[simp] theorem State.emit_sigH (e : Event) : (s.emit e).sigH = s.sigH := rfl
@[simp] theorem State.emit_err (e : Event) : (s.emit e).err = s.err := rfl
@[simp] theorem State.emit_secErr (e : Event) : (s.emit e).secErr = s.secErr := rfl
@[simp] theorem State.emit_outcome (e : Event) : (s.emit e).outcome = s.outcome := rfl
@[simp] theorem State.emit_trace (e : Event) : (s.emit e).trace = s.trace ++ [e] := rfl
@[simp] theorem State.emit_readyLine (e : Event) : (s.emit e).readyLine = s.readyLine := rfl
@[simp] theorem State.emit_readySeen (e : Event) : (s.emit e).readySeen = s.readySeen := rfl
@[simp] theorem State.emit_pending (e : Event) : (s.emit e).pending = s.pending := rfl
@[simp] theorem State.emit_params (e : Event) : (s.emit e).params = s.params := rfl
@[simp] theorem State.emit_env (e : Event) : (s.emit e).env = s.env := rfl
@[simp] theorem State.emit_port (e : Event) : (s.emit e).port = s.port := rfl
@[simp] theorem State.emit_call (e : Event) : (s.emit e).call = s.call := rfl
@[simp] theorem State.emit_result (e : Event) : (s.emit e).result = s.result := rfl
@[simp] theorem State.emit_config (e : Event) : (s.emit e).config = s.config := rfl
@[simp] theorem State.emit_frameBytes (e : Event) : (s.emit e).frameBytes = s.frameBytes := rfl
@[simp] theorem State.emit_blockLen (e : Event) : (s.emit e).blockLen = s.blockLen := rfl

/-! ### hear -/

@[simp] theorem State.hear_phase (line seen : Bool) (rest : List EnvEvent) : (s.hear line seen rest).phase = s.phase := rfl
@[simp] theorem State.hear_cfg (line seen : Bool) (rest : List EnvEvent) : (s.hear line seen rest).cfg = s.cfg := rfl
@[simp] theorem State.hear_frame (line seen : Bool) (rest : List EnvEvent) : (s.hear line seen rest).frame = s.frame := rfl
@[simp] theorem State.hear_lenWord (line seen : Bool) (rest : List EnvEvent) : (s.hear line seen rest).lenWord = s.lenWord := rfl
@[simp] theorem State.hear_blkLen (line seen : Bool) (rest : List EnvEvent) : (s.hear line seen rest).blkLen = s.blkLen := rfl
@[simp] theorem State.hear_blkIdx (line seen : Bool) (rest : List EnvEvent) : (s.hear line seen rest).blkIdx = s.blkIdx := rfl
@[simp] theorem State.hear_rx (line seen : Bool) (rest : List EnvEvent) : (s.hear line seen rest).rx = s.rx := rfl
@[simp] theorem State.hear_ch1 (line seen : Bool) (rest : List EnvEvent) : (s.hear line seen rest).ch1 = s.ch1 := rfl
@[simp] theorem State.hear_ch2 (line seen : Bool) (rest : List EnvEvent) : (s.hear line seen rest).ch2 = s.ch2 := rfl
@[simp] theorem State.hear_busH (line seen : Bool) (rest : List EnvEvent) : (s.hear line seen rest).busH = s.busH := rfl
@[simp] theorem State.hear_sigH (line seen : Bool) (rest : List EnvEvent) : (s.hear line seen rest).sigH = s.sigH := rfl
@[simp] theorem State.hear_err (line seen : Bool) (rest : List EnvEvent) : (s.hear line seen rest).err = s.err := rfl
@[simp] theorem State.hear_secErr (line seen : Bool) (rest : List EnvEvent) : (s.hear line seen rest).secErr = s.secErr := rfl
@[simp] theorem State.hear_outcome (line seen : Bool) (rest : List EnvEvent) : (s.hear line seen rest).outcome = s.outcome := rfl
@[simp] theorem State.hear_trace (line seen : Bool) (rest : List EnvEvent) : (s.hear line seen rest).trace = s.trace := rfl
@[simp] theorem State.hear_readyLine (line seen : Bool) (rest : List EnvEvent) : (s.hear line seen rest).readyLine = line := rfl
@[simp] theorem State.hear_readySeen (line seen : Bool) (rest : List EnvEvent) : (s.hear line seen rest).readySeen = seen := rfl
@[simp] theorem State.hear_pending (line seen : Bool) (rest : List EnvEvent) : (s.hear line seen rest).pending = s.pending := rfl
@[simp] theorem State.hear_params (line seen : Bool) (rest : List EnvEvent) : (s.hear line seen rest).params = s.params := rfl
@[simp] theorem State.hear_env (line seen : Bool) (rest : List EnvEvent) : (s.hear line seen rest).env = rest := rfl
@[simp] theorem State.hear_port (line seen : Bool) (rest : List EnvEvent) : (s.hear line seen rest).port = s.port := rfl
@[simp] theorem State.hear_call (line seen : Bool) (rest : List EnvEvent) : (s.hear line seen rest).call = s.call := rfl
@[simp] theorem State.hear_result (line seen : Bool) (rest : List EnvEvent) : (s.hear line seen rest).result = s.result := rfl
@[simp] theorem State.hear_config (line seen : Bool) (rest : List EnvEvent) : (s.hear line seen rest).config = s.config := rfl
@[simp] theorem State.hear_frameBytes (line seen : Bool) (rest : List EnvEvent) : (s.hear line seen rest).frameBytes = s.frameBytes := rfl
@[simp] theorem State.hear_blockLen (line seen : Bool) (rest : List EnvEvent) : (s.hear line seen rest).blockLen = s.blockLen := rfl

/-! ### settle -/

@[simp] theorem State.settle_phase : (s.settle).phase = s.phase := rfl
@[simp] theorem State.settle_cfg : (s.settle).cfg = s.cfg := rfl
@[simp] theorem State.settle_frame : (s.settle).frame = s.frame := rfl
@[simp] theorem State.settle_lenWord : (s.settle).lenWord = s.lenWord := rfl
@[simp] theorem State.settle_blkLen : (s.settle).blkLen = s.blkLen := rfl
@[simp] theorem State.settle_blkIdx : (s.settle).blkIdx = s.blkIdx := rfl
@[simp] theorem State.settle_rx : (s.settle).rx = s.rx := rfl
@[simp] theorem State.settle_ch1 : (s.settle).ch1 = s.ch1 := rfl
@[simp] theorem State.settle_ch2 : (s.settle).ch2 = s.ch2 := rfl
@[simp] theorem State.settle_busH : (s.settle).busH = s.busH := rfl
@[simp] theorem State.settle_sigH : (s.settle).sigH = s.sigH := rfl
@[simp] theorem State.settle_err : (s.settle).err = s.err := rfl
@[simp] theorem State.settle_secErr : (s.settle).secErr = s.secErr := rfl
@[simp] theorem State.settle_outcome : (s.settle).outcome = s.outcome := rfl
@[simp] theorem State.settle_trace : (s.settle).trace = s.trace := rfl
@[simp] theorem State.settle_readyLine : (s.settle).readyLine = s.readyLine := rfl
@[simp] theorem State.settle_readySeen : (s.settle).readySeen = s.readySeen := rfl
@[simp] theorem State.settle_pending : (s.settle).pending = none := rfl
@[simp] theorem State.settle_params : (s.settle).params = s.params := rfl
@[simp] theorem State.settle_env : (s.settle).env = s.env := rfl
@[simp] theorem State.settle_port : (s.settle).port = s.port := rfl
@[simp] theorem State.settle_call : (s.settle).call = s.call := rfl
@[simp] theorem State.settle_result : (s.settle).result = s.result := rfl
@[simp] theorem State.settle_config : (s.settle).config = s.config := rfl
@[simp] theorem State.settle_frameBytes : (s.settle).frameBytes = s.frameBytes := rfl
@[simp] theorem State.settle_blockLen : (s.settle).blockLen = s.blockLen := rfl

/-! ### receive -/

@[simp] theorem State.receive_phase (b : List Byte) : (s.receive b).phase = s.phase := rfl
@[simp] theorem State.receive_cfg (b : List Byte) : (s.receive b).cfg = s.cfg := rfl
@[simp] theorem State.receive_frame (b : List Byte) : (s.receive b).frame = s.frame := rfl
@[simp] theorem State.receive_lenWord (b : List Byte) : (s.receive b).lenWord = s.lenWord := rfl
@[simp] theorem State.receive_blkLen (b : List Byte) : (s.receive b).blkLen = s.blkLen := rfl
@[simp] theorem State.receive_blkIdx (b : List Byte) : (s.receive b).blkIdx = s.blkIdx := rfl
@[simp] theorem State.receive_rx (b : List Byte) : (s.receive b).rx = some b := rfl
@[simp] theorem State.receive_ch1 (b : List Byte) : (s.receive b).ch1 = s.ch1 := rfl
@[simp] theorem State.receive_ch2 (b : List Byte) : (s.receive b).ch2 = s.ch2 := rfl
@[simp] theorem State.receive_busH (b : List Byte) : (s.receive b).busH = s.busH := rfl
@[simp] theorem State.receive_sigH (b : List Byte) : (s.receive b).sigH = s.sigH := rfl
@[simp] theorem State.receive_err (b : List Byte) : (s.receive b).err = s.err := rfl
@[simp] theorem State.receive_secErr (b : List Byte) : (s.receive b).secErr = s.secErr := rfl
@[simp] theorem State.receive_outcome (b : List Byte) : (s.receive b).outcome = s.outcome := rfl
@[simp] theorem State.receive_trace (b : List Byte) : (s.receive b).trace = s.trace := rfl
@[simp] theorem State.receive_readyLine (b : List Byte) : (s.receive b).readyLine = s.readyLine := rfl
@[simp] theorem State.receive_readySeen (b : List Byte) : (s.receive b).readySeen = s.readySeen := rfl
@[simp] theorem State.receive_pending (b : List Byte) : (s.receive b).pending = s.pending := rfl
@[simp] theorem State.receive_params (b : List Byte) : (s.receive b).params = s.params := rfl
@[simp] theorem State.receive_env (b : List Byte) : (s.receive b).env = s.env := rfl
@[simp] theorem State.receive_port (b : List Byte) : (s.receive b).port = s.port := rfl
@[simp] theorem State.receive_call (b : List Byte) : (s.receive b).call = s.call := rfl
@[simp] theorem State.receive_result (b : List Byte) : (s.receive b).result = s.result := rfl
@[simp] theorem State.receive_config (b : List Byte) : (s.receive b).config = s.config := rfl
@[simp] theorem State.receive_frameBytes (b : List Byte) : (s.receive b).frameBytes = s.frameBytes := rfl
@[simp] theorem State.receive_blockLen (b : List Byte) : (s.receive b).blockLen = s.blockLen := rfl

/-! ### setBus -/

@[simp] theorem State.setBus_phase (h : HandleState) : (s.setBus h).phase = s.phase := rfl
@[simp] theorem State.setBus_cfg (h : HandleState) : (s.setBus h).cfg = s.cfg := rfl
@[simp] theorem State.setBus_frame (h : HandleState) : (s.setBus h).frame = s.frame := rfl
@[simp] theorem State.setBus_lenWord (h : HandleState) : (s.setBus h).lenWord = s.lenWord := rfl
@[simp] theorem State.setBus_blkLen (h : HandleState) : (s.setBus h).blkLen = s.blkLen := rfl
@[simp] theorem State.setBus_blkIdx (h : HandleState) : (s.setBus h).blkIdx = s.blkIdx := rfl
@[simp] theorem State.setBus_rx (h : HandleState) : (s.setBus h).rx = s.rx := rfl
@[simp] theorem State.setBus_ch1 (h : HandleState) : (s.setBus h).ch1 = s.ch1 := rfl
@[simp] theorem State.setBus_ch2 (h : HandleState) : (s.setBus h).ch2 = s.ch2 := rfl
@[simp] theorem State.setBus_busH (h : HandleState) : (s.setBus h).busH = h := rfl
@[simp] theorem State.setBus_sigH (h : HandleState) : (s.setBus h).sigH = s.sigH := rfl
@[simp] theorem State.setBus_err (h : HandleState) : (s.setBus h).err = s.err := rfl
@[simp] theorem State.setBus_secErr (h : HandleState) : (s.setBus h).secErr = s.secErr := rfl
@[simp] theorem State.setBus_outcome (h : HandleState) : (s.setBus h).outcome = s.outcome := rfl
@[simp] theorem State.setBus_trace (h : HandleState) : (s.setBus h).trace = s.trace := rfl
@[simp] theorem State.setBus_readyLine (h : HandleState) : (s.setBus h).readyLine = s.readyLine := rfl
@[simp] theorem State.setBus_readySeen (h : HandleState) : (s.setBus h).readySeen = s.readySeen := rfl
@[simp] theorem State.setBus_pending (h : HandleState) : (s.setBus h).pending = s.pending := rfl
@[simp] theorem State.setBus_params (h : HandleState) : (s.setBus h).params = s.params := rfl
@[simp] theorem State.setBus_env (h : HandleState) : (s.setBus h).env = s.env := rfl
@[simp] theorem State.setBus_port (h : HandleState) : (s.setBus h).port = s.port := rfl
@[simp] theorem State.setBus_call (h : HandleState) : (s.setBus h).call = s.call := rfl
@[simp] theorem State.setBus_result (h : HandleState) : (s.setBus h).result = s.result := rfl
@[simp] theorem State.setBus_config (h : HandleState) : (s.setBus h).config = s.config := rfl
@[simp] theorem State.setBus_frameBytes (h : HandleState) : (s.setBus h).frameBytes = s.frameBytes := rfl
@[simp] theorem State.setBus_blockLen (h : HandleState) : (s.setBus h).blockLen = s.blockLen := rfl

/-! ### setSig -/

@[simp] theorem State.setSig_phase (h : HandleState) : (s.setSig h).phase = s.phase := rfl
@[simp] theorem State.setSig_cfg (h : HandleState) : (s.setSig h).cfg = s.cfg := rfl
@[simp] theorem State.setSig_frame (h : HandleState) : (s.setSig h).frame = s.frame := rfl
@[simp] theorem State.setSig_lenWord (h : HandleState) : (s.setSig h).lenWord = s.lenWord := rfl
@[simp] theorem State.setSig_blkLen (h : HandleState) : (s.setSig h).blkLen = s.blkLen := rfl
@[simp] theorem State.setSig_blkIdx (h : HandleState) : (s.setSig h).blkIdx = s.blkIdx := rfl
@[simp] theorem State.setSig_rx (h : HandleState) : (s.setSig h).rx = s.rx := rfl
@[simp] theorem State.setSig_ch1 (h : HandleState) : (s.setSig h).ch1 = s.ch1 := rfl
@[simp] theorem State.setSig_ch2 (h : HandleState) : (s.setSig h).ch2 = s.ch2 := rfl
@[simp] theorem State.setSig_busH (h : HandleState) : (s.setSig h).busH = s.busH := rfl
@[simp] theorem State.setSig_sigH (h : HandleState) : (s.setSig h).sigH = h := rfl
@[simp] theorem State.setSig_err (h : HandleState) : (s.setSig h).err = s.err := rfl
@[simp] theorem State.setSig_secErr (h : HandleState) : (s.setSig h).secErr = s.secErr := rfl
@[simp] theorem State.setSig_outcome (h : HandleState) : (s.setSig h).outcome = s.outcome := rfl
@[simp] theorem State.setSig_trace (h : HandleState) : (s.setSig h).trace = s.trace := rfl
@[simp] theorem State.setSig_readyLine (h : HandleState) : (s.setSig h).readyLine = s.readyLine := rfl
@[simp] theorem State.setSig_readySeen (h : HandleState) : (s.setSig h).readySeen = s.readySeen := rfl
@[simp] theorem State.setSig_pending (h : HandleState) : (s.setSig h).pending = s.pending := rfl
@[simp] theorem State.setSig_params (h : HandleState) : (s.setSig h).params = s.params := rfl
@[simp] theorem State.setSig_env (h : HandleState) : (s.setSig h).env = s.env := rfl
@[simp] theorem State.setSig_port (h : HandleState) : (s.setSig h).port = s.port := rfl
@[simp] theorem State.setSig_call (h : HandleState) : (s.setSig h).call = s.call := rfl
@[simp] theorem State.setSig_result (h : HandleState) : (s.setSig h).result = s.result := rfl
@[simp] theorem State.setSig_config (h : HandleState) : (s.setSig h).config = s.config := rfl
@[simp] theorem State.setSig_frameBytes (h : HandleState) : (s.setSig h).frameBytes = s.frameBytes := rfl
@[simp] theorem State.setSig_blockLen (h : HandleState) : (s.setSig h).blockLen = s.blockLen := rfl

/-! ### appendBlock -/

@[simp] theorem State.appendBlock_phase (sets : List U16 × List U16) : (s.appendBlock sets).phase = s.phase := rfl
@[simp] theorem State.appendBlock_cfg (sets : List U16 × List U16) : (s.appendBlock sets).cfg = s.cfg := rfl
@[simp] theorem State.appendBlock_frame (sets : List U16 × List U16) : (s.appendBlock sets).frame = s.frame := rfl
@[simp] theorem State.appendBlock_lenWord (sets : List U16 × List U16) : (s.appendBlock sets).lenWord = s.lenWord := rfl
@[simp] theorem State.appendBlock_blkLen (sets : List U16 × List U16) : (s.appendBlock sets).blkLen = s.blkLen := rfl
@[simp] theorem State.appendBlock_blkIdx (sets : List U16 × List U16) : (s.appendBlock sets).blkIdx = s.blkIdx + 1 := rfl
@[simp] theorem State.appendBlock_rx (sets : List U16 × List U16) : (s.appendBlock sets).rx = s.rx := rfl
@[simp] theorem State.appendBlock_ch1 (sets : List U16 × List U16) : (s.appendBlock sets).ch1 = s.ch1 ++ [sets.1] := rfl
@[simp] theorem State.appendBlock_ch2 (sets : List U16 × List U16) : (s.appendBlock sets).ch2 = s.ch2 ++ [sets.2] := rfl
@[simp] theorem State.appendBlock_busH (sets : List U16 × List U16) : (s.appendBlock sets).busH = s.busH := rfl
@[simp] theorem State.appendBlock_sigH (sets : List U16 × List U16) : (s.appendBlock sets).sigH = s.sigH := rfl
@[simp] theorem State.appendBlock_err (sets : List U16 × List U16) : (s.appendBlock sets).err = s.err := rfl
@[simp] theorem State.appendBlock_secErr (sets : List U16 × List U16) : (s.appendBlock sets).secErr = s.secErr := rfl
@[simp] theorem State.appendBlock_outcome (sets : List U16 × List U16) : (s.appendBlock sets).outcome = s.outcome := rfl
@[simp] theorem State.appendBlock_trace (sets : List U16 × List U16) : (s.appendBlock sets).trace = s.trace := rfl
@[simp] theorem State.appendBlock_readyLine (sets : List U16 × List U16) : (s.appendBlock sets).readyLine = s.readyLine := rfl
@[simp] theorem State.appendBlock_readySeen (sets : List U16 × List U16) : (s.appendBlock sets).readySeen = s.readySeen := rfl
@[simp] theorem State.appendBlock_pending (sets : List U16 × List U16) : (s.appendBlock sets).pending = s.pending := rfl
@[simp] theorem State.appendBlock_params (sets : List U16 × List U16) : (s.appendBlock sets).params = s.params := rfl
@[simp] theorem State.appendBlock_env (sets : List U16 × List U16) : (s.appendBlock sets).env = s.env := rfl
@[simp] theorem State.appendBlock_port (sets : List U16 × List U16) : (s.appendBlock sets).port = s.port := rfl
@[simp] theorem State.appendBlock_call (sets : List U16 × List U16) : (s.appendBlock sets).call = s.call := rfl
@[simp] theorem State.appendBlock_result (sets : List U16 × List U16) : (s.appendBlock sets).result = s.result := rfl
@[simp] theorem State.appendBlock_config (sets : List U16 × List U16) : (s.appendBlock sets).config = s.config := rfl
@[simp] theorem State.appendBlock_frameBytes (sets : List U16 × List U16) : (s.appendBlock sets).frameBytes = s.frameBytes := rfl
@[simp] theorem State.appendBlock_blockLen (sets : List U16 × List U16) : (s.appendBlock sets).blockLen = s.blockLen := rfl

/-! ### takeOutcome -/

@[simp] theorem State.takeOutcome_phase : (s.takeOutcome).phase = .idle := rfl
@[simp] theorem State.takeOutcome_cfg : (s.takeOutcome).cfg = s.cfg := rfl
@[simp] theorem State.takeOutcome_frame : (s.takeOutcome).frame = s.frame := rfl
@[simp] theorem State.takeOutcome_lenWord : (s.takeOutcome).lenWord = s.lenWord := rfl
@[simp] theorem State.takeOutcome_blkLen : (s.takeOutcome).blkLen = s.blkLen := rfl
@[simp] theorem State.takeOutcome_blkIdx : (s.takeOutcome).blkIdx = s.blkIdx := rfl
@[simp] theorem State.takeOutcome_rx : (s.takeOutcome).rx = s.rx := rfl
@[simp] theorem State.takeOutcome_ch1 : (s.takeOutcome).ch1 = s.ch1 := rfl
@[simp] theorem State.takeOutcome_ch2 : (s.takeOutcome).ch2 = s.ch2 := rfl
@[simp] theorem State.takeOutcome_busH : (s.takeOutcome).busH = s.busH := rfl
@[simp] theorem State.takeOutcome_sigH : (s.takeOutcome).sigH = s.sigH := rfl
@[simp] theorem State.takeOutcome_err : (s.takeOutcome).err = s.err := rfl
@[simp] theorem State.takeOutcome_secErr : (s.takeOutcome).secErr = s.secErr := rfl
@[simp] theorem State.takeOutcome_outcome : (s.takeOutcome).outcome = s.outcome := rfl
@[simp] theorem State.takeOutcome_trace : (s.takeOutcome).trace = s.trace := rfl
@[simp] theorem State.takeOutcome_readyLine : (s.takeOutcome).readyLine = s.readyLine := rfl
@[simp] theorem State.takeOutcome_readySeen : (s.takeOutcome).readySeen = s.readySeen := rfl
@[simp] theorem State.takeOutcome_pending : (s.takeOutcome).pending = s.pending := rfl
@[simp] theorem State.takeOutcome_params : (s.takeOutcome).params = s.params := rfl
@[simp] theorem State.takeOutcome_env : (s.takeOutcome).env = s.env := rfl
@[simp] theorem State.takeOutcome_port : (s.takeOutcome).port = s.port := rfl
@[simp] theorem State.takeOutcome_call : (s.takeOutcome).call = false := rfl
@[simp] theorem State.takeOutcome_result : (s.takeOutcome).result = some (returnedBy s.call s.outcome) := rfl
@[simp] theorem State.takeOutcome_config : (s.takeOutcome).config = s.config := rfl
@[simp] theorem State.takeOutcome_frameBytes : (s.takeOutcome).frameBytes = s.frameBytes := rfl
@[simp] theorem State.takeOutcome_blockLen : (s.takeOutcome).blockLen = s.blockLen := rfl

/-! ### startSession -/

@[simp] theorem State.startSession_phase (c : AcqConfig) : (s.startSession c).phase = .openBus := rfl
@[simp] theorem State.startSession_cfg (c : AcqConfig) : (s.startSession c).cfg = some c := rfl
@[simp] theorem State.startSession_frame (c : AcqConfig) : (s.startSession c).frame = none := rfl
@[simp] theorem State.startSession_lenWord (c : AcqConfig) : (s.startSession c).lenWord = none := rfl
@[simp] theorem State.startSession_blkLen (c : AcqConfig) : (s.startSession c).blkLen = none := rfl
@[simp] theorem State.startSession_blkIdx (c : AcqConfig) : (s.startSession c).blkIdx = 0 := rfl
@[simp] theorem State.startSession_rx (c : AcqConfig) : (s.startSession c).rx = none := rfl
@[simp] theorem State.startSession_ch1 (c : AcqConfig) : (s.startSession c).ch1 = [] := rfl
@[simp] theorem State.startSession_ch2 (c : AcqConfig) : (s.startSession c).ch2 = [] := rfl
@[simp] theorem State.startSession_busH (c : AcqConfig) : (s.startSession c).busH = .none := rfl
@[simp] theorem State.startSession_sigH (c : AcqConfig) : (s.startSession c).sigH = .none := rfl
@[simp] theorem State.startSession_err (c : AcqConfig) : (s.startSession c).err = none := rfl
@[simp] theorem State.startSession_secErr (c : AcqConfig) : (s.startSession c).secErr = [] := rfl
@[simp] theorem State.startSession_outcome (c : AcqConfig) : (s.startSession c).outcome = none := rfl
@[simp] theorem State.startSession_trace (c : AcqConfig) : (s.startSession c).trace = [] := rfl
@[simp] theorem State.startSession_readyLine (c : AcqConfig) : (s.startSession c).readyLine = s.readyLine := rfl
@[simp] theorem State.startSession_readySeen (c : AcqConfig) : (s.startSession c).readySeen = s.readySeen := rfl
@[simp] theorem State.startSession_pending (c : AcqConfig) : (s.startSession c).pending = none := rfl
@[simp] theorem State.startSession_params (c : AcqConfig) : (s.startSession c).params = s.params := rfl
@[simp] theorem State.startSession_env (c : AcqConfig) : (s.startSession c).env = s.env := rfl
@[simp] theorem State.startSession_port (c : AcqConfig) : (s.startSession c).port = s.port := rfl
@[simp] theorem State.startSession_call (c : AcqConfig) : (s.startSession c).call = false := rfl
@[simp] theorem State.startSession_result (c : AcqConfig) : (s.startSession c).result = s.result := rfl

/-! ### recordErr, raise, finish, closeResponse and issue, which branch on the state -/

variable {s}

theorem State.recordErr_of_none (c : Cause) (info : ErrInfo) (h : s.err = none) :
    s.recordErr c info = { s with err := some (s.errRec c info) } := by
  simp [State.recordErr, h]

theorem State.recordErr_of_some (c : Cause) (info : ErrInfo) (e : ErrRec) (h : s.err = some e) :
    s.recordErr c info = { s with secErr := s.secErr ++ [s.errRec c info] } := by
  simp [State.recordErr, h]

theorem State.finish_of_none (h : s.err = none) :
    s.finish = { s with phase := .done, outcome := some (.ok s.ch1 s.ch2) } := by
  simp [State.finish, h]

theorem State.finish_of_some (e : ErrRec) (h : s.err = some e) :
    s.finish = { s with phase := .failed, outcome := some (.fail e s.secErr) } := by
  simp [State.finish, h]

variable (s)

@[simp] theorem State.recordErr_phase (c : Cause) (info : ErrInfo) : (s.recordErr c info).phase = s.phase := by
  unfold State.recordErr; split <;> rfl
@[simp] theorem State.recordErr_cfg (c : Cause) (info : ErrInfo) : (s.recordErr c info).cfg = s.cfg := by
  unfold State.recordErr; split <;> rfl
@[simp] theorem State.recordErr_frame (c : Cause) (info : ErrInfo) : (s.recordErr c info).frame = s.frame := by
  unfold State.recordErr; split <;> rfl
@[simp] theorem State.recordErr_lenWord (c : Cause) (info : ErrInfo) : (s.recordErr c info).lenWord = s.lenWord := by
  unfold State.recordErr; split <;> rfl
@[simp] theorem State.recordErr_blkLen (c : Cause) (info : ErrInfo) : (s.recordErr c info).blkLen = s.blkLen := by
  unfold State.recordErr; split <;> rfl
@[simp] theorem State.recordErr_blkIdx (c : Cause) (info : ErrInfo) : (s.recordErr c info).blkIdx = s.blkIdx := by
  unfold State.recordErr; split <;> rfl
@[simp] theorem State.recordErr_rx (c : Cause) (info : ErrInfo) : (s.recordErr c info).rx = s.rx := by
  unfold State.recordErr; split <;> rfl
@[simp] theorem State.recordErr_ch1 (c : Cause) (info : ErrInfo) : (s.recordErr c info).ch1 = s.ch1 := by
  unfold State.recordErr; split <;> rfl
@[simp] theorem State.recordErr_ch2 (c : Cause) (info : ErrInfo) : (s.recordErr c info).ch2 = s.ch2 := by
  unfold State.recordErr; split <;> rfl
@[simp] theorem State.recordErr_busH (c : Cause) (info : ErrInfo) : (s.recordErr c info).busH = s.busH := by
  unfold State.recordErr; split <;> rfl
@[simp] theorem State.recordErr_sigH (c : Cause) (info : ErrInfo) : (s.recordErr c info).sigH = s.sigH := by
  unfold State.recordErr; split <;> rfl
@[simp] theorem State.recordErr_outcome (c : Cause) (info : ErrInfo) : (s.recordErr c info).outcome = s.outcome := by
  unfold State.recordErr; split <;> rfl
@[simp] theorem State.recordErr_trace (c : Cause) (info : ErrInfo) : (s.recordErr c info).trace = s.trace := by
  unfold State.recordErr; split <;> rfl
@[simp] theorem State.recordErr_readyLine (c : Cause) (info : ErrInfo) : (s.recordErr c info).readyLine = s.readyLine := by
  unfold State.recordErr; split <;> rfl
@[simp] theorem State.recordErr_readySeen (c : Cause) (info : ErrInfo) : (s.recordErr c info).readySeen = s.readySeen := by
  unfold State.recordErr; split <;> rfl
@[simp] theorem State.recordErr_pending (c : Cause) (info : ErrInfo) : (s.recordErr c info).pending = s.pending := by
  unfold State.recordErr; split <;> rfl
@[simp] theorem State.recordErr_params (c : Cause) (info : ErrInfo) : (s.recordErr c info).params = s.params := by
  unfold State.recordErr; split <;> rfl
@[simp] theorem State.recordErr_env (c : Cause) (info : ErrInfo) : (s.recordErr c info).env = s.env := by
  unfold State.recordErr; split <;> rfl
@[simp] theorem State.recordErr_port (c : Cause) (info : ErrInfo) : (s.recordErr c info).port = s.port := by
  unfold State.recordErr; split <;> rfl
@[simp] theorem State.recordErr_call (c : Cause) (info : ErrInfo) : (s.recordErr c info).call = s.call := by
  unfold State.recordErr; split <;> rfl
@[simp] theorem State.recordErr_result (c : Cause) (info : ErrInfo) : (s.recordErr c info).result = s.result := by
  unfold State.recordErr; split <;> rfl
@[simp] theorem State.recordErr_config (c : Cause) (info : ErrInfo) : (s.recordErr c info).config = s.config := by
  simp [State.config]
@[simp] theorem State.recordErr_frameBytes (c : Cause) (info : ErrInfo) : (s.recordErr c info).frameBytes = s.frameBytes := by
  simp [State.frameBytes]
@[simp] theorem State.recordErr_blockLen (c : Cause) (info : ErrInfo) : (s.recordErr c info).blockLen = s.blockLen := by
  simp [State.blockLen]
@[simp] theorem State.raise_phase (c : Cause) (info : ErrInfo) : (s.raise c info).phase = .closeSig := rfl
@[simp] theorem State.raise_cfg (c : Cause) (info : ErrInfo) : (s.raise c info).cfg = s.cfg := by
  simp [State.raise]
@[simp] theorem State.raise_frame (c : Cause) (info : ErrInfo) : (s.raise c info).frame = s.frame := by
  simp [State.raise]
@[simp] theorem State.raise_lenWord (c : Cause) (info : ErrInfo) : (s.raise c info).lenWord = s.lenWord := by
  simp [State.raise]
@[simp] theorem State.raise_blkLen (c : Cause) (info : ErrInfo) : (s.raise c info).blkLen = s.blkLen := by
  simp [State.raise]
@[simp] theorem State.raise_blkIdx (c : Cause) (info : ErrInfo) : (s.raise c info).blkIdx = s.blkIdx := by
  simp [State.raise]
@[simp] theorem State.raise_rx (c : Cause) (info : ErrInfo) : (s.raise c info).rx = s.rx := by
  simp [State.raise]
@[simp] theorem State.raise_ch1 (c : Cause) (info : ErrInfo) : (s.raise c info).ch1 = s.ch1 := by
  simp [State.raise]
@[simp] theorem State.raise_ch2 (c : Cause) (info : ErrInfo) : (s.raise c info).ch2 = s.ch2 := by
  simp [State.raise]
@[simp] theorem State.raise_busH (c : Cause) (info : ErrInfo) : (s.raise c info).busH = s.busH := by
  simp [State.raise]
@[simp] theorem State.raise_sigH (c : Cause) (info : ErrInfo) : (s.raise c info).sigH = s.sigH := by
  simp [State.raise]
@[simp] theorem State.raise_outcome (c : Cause) (info : ErrInfo) : (s.raise c info).outcome = s.outcome := by
  simp [State.raise]
@[simp] theorem State.raise_trace (c : Cause) (info : ErrInfo) : (s.raise c info).trace = s.trace := by
  simp [State.raise]
@[simp] theorem State.raise_readyLine (c : Cause) (info : ErrInfo) : (s.raise c info).readyLine = s.readyLine := by
  simp [State.raise]
@[simp] theorem State.raise_readySeen (c : Cause) (info : ErrInfo) : (s.raise c info).readySeen = s.readySeen := by
  simp [State.raise]
@[simp] theorem State.raise_pending (c : Cause) (info : ErrInfo) : (s.raise c info).pending = s.pending := by
  simp [State.raise]
@[simp] theorem State.raise_params (c : Cause) (info : ErrInfo) : (s.raise c info).params = s.params := by
  simp [State.raise]
@[simp] theorem State.raise_env (c : Cause) (info : ErrInfo) : (s.raise c info).env = s.env := by
  simp [State.raise]
@[simp] theorem State.raise_port (c : Cause) (info : ErrInfo) : (s.raise c info).port = s.port := by
  simp [State.raise]
@[simp] theorem State.raise_call (c : Cause) (info : ErrInfo) : (s.raise c info).call = s.call := by
  simp [State.raise]
@[simp] theorem State.raise_result (c : Cause) (info : ErrInfo) : (s.raise c info).result = s.result := by
  simp [State.raise]
@[simp] theorem State.raise_config (c : Cause) (info : ErrInfo) : (s.raise c info).config = s.config := by
  simp [State.raise]
@[simp] theorem State.raise_frameBytes (c : Cause) (info : ErrInfo) : (s.raise c info).frameBytes = s.frameBytes := by
  simp [State.raise]
@[simp] theorem State.raise_blockLen (c : Cause) (info : ErrInfo) : (s.raise c info).blockLen = s.blockLen := by
  simp [State.raise]
@[simp] theorem State.finish_cfg : s.finish.cfg = s.cfg := by
  unfold State.finish; split <;> rfl
@[simp] theorem State.finish_frame : s.finish.frame = s.frame := by
  unfold State.finish; split <;> rfl
@[simp] theorem State.finish_lenWord : s.finish.lenWord = s.lenWord := by
  unfold State.finish; split <;> rfl
@[simp] theorem State.finish_blkLen : s.finish.blkLen = s.blkLen := by
  unfold State.finish; split <;> rfl
@[simp] theorem State.finish_blkIdx : s.finish.blkIdx = s.blkIdx := by
  unfold State.finish; split <;> rfl
@[simp] theorem State.finish_rx : s.finish.rx = s.rx := by
  unfold State.finish; split <;> rfl
@[simp] theorem State.finish_ch1 : s.finish.ch1 = s.ch1 := by
  unfold State.finish; split <;> rfl
@[simp] theorem State.finish_ch2 : s.finish.ch2 = s.ch2 := by
  unfold State.finish; split <;> rfl
@[simp] theorem State.finish_busH : s.finish.busH = s.busH := by
  unfold State.finish; split <;> rfl
@[simp] theorem State.finish_sigH : s.finish.sigH = s.sigH := by
  unfold State.finish; split <;> rfl
@[simp] theorem State.finish_err : s.finish.err = s.err := by
  unfold State.finish; split <;> rfl
@[simp] theorem State.finish_secErr : s.finish.secErr = s.secErr := by
  unfold State.finish; split <;> rfl
@[simp] theorem State.finish_trace : s.finish.trace = s.trace := by
  unfold State.finish; split <;> rfl
@[simp] theorem State.finish_readyLine : s.finish.readyLine = s.readyLine := by
  unfold State.finish; split <;> rfl
@[simp] theorem State.finish_readySeen : s.finish.readySeen = s.readySeen := by
  unfold State.finish; split <;> rfl
@[simp] theorem State.finish_pending : s.finish.pending = s.pending := by
  unfold State.finish; split <;> rfl
@[simp] theorem State.finish_params : s.finish.params = s.params := by
  unfold State.finish; split <;> rfl
@[simp] theorem State.finish_env : s.finish.env = s.env := by
  unfold State.finish; split <;> rfl
@[simp] theorem State.finish_port : s.finish.port = s.port := by
  unfold State.finish; split <;> rfl
@[simp] theorem State.finish_call : s.finish.call = s.call := by
  unfold State.finish; split <;> rfl
@[simp] theorem State.finish_result : s.finish.result = s.result := by
  unfold State.finish; split <;> rfl
@[simp] theorem State.issue_phase (req : Request) : (s.issue req).phase = s.phase := by
  unfold State.issue; split <;> rfl
@[simp] theorem State.issue_cfg (req : Request) : (s.issue req).cfg = s.cfg := by
  unfold State.issue; split <;> rfl
@[simp] theorem State.issue_frame (req : Request) : (s.issue req).frame = s.frame := by
  unfold State.issue; split <;> rfl
@[simp] theorem State.issue_lenWord (req : Request) : (s.issue req).lenWord = s.lenWord := by
  unfold State.issue; split <;> rfl
@[simp] theorem State.issue_blkLen (req : Request) : (s.issue req).blkLen = s.blkLen := by
  unfold State.issue; split <;> rfl
@[simp] theorem State.issue_blkIdx (req : Request) : (s.issue req).blkIdx = s.blkIdx := by
  unfold State.issue; split <;> rfl
@[simp] theorem State.issue_rx (req : Request) : (s.issue req).rx = s.rx := by
  unfold State.issue; split <;> rfl
@[simp] theorem State.issue_ch1 (req : Request) : (s.issue req).ch1 = s.ch1 := by
  unfold State.issue; split <;> rfl
@[simp] theorem State.issue_ch2 (req : Request) : (s.issue req).ch2 = s.ch2 := by
  unfold State.issue; split <;> rfl
@[simp] theorem State.issue_busH (req : Request) : (s.issue req).busH = s.busH := by
  unfold State.issue; split <;> rfl
@[simp] theorem State.issue_sigH (req : Request) : (s.issue req).sigH = s.sigH := by
  unfold State.issue; split <;> rfl
@[simp] theorem State.issue_err (req : Request) : (s.issue req).err = s.err := by
  unfold State.issue; split <;> rfl
@[simp] theorem State.issue_secErr (req : Request) : (s.issue req).secErr = s.secErr := by
  unfold State.issue; split <;> rfl
@[simp] theorem State.issue_outcome (req : Request) : (s.issue req).outcome = s.outcome := by
  unfold State.issue; split <;> rfl
@[simp] theorem State.issue_trace (req : Request) : (s.issue req).trace = s.trace := by
  unfold State.issue; split <;> rfl
@[simp] theorem State.issue_readyLine (req : Request) : (s.issue req).readyLine = s.readyLine := by
  unfold State.issue; split <;> rfl
@[simp] theorem State.issue_params (req : Request) : (s.issue req).params = s.params := by
  unfold State.issue; split <;> rfl
@[simp] theorem State.issue_env (req : Request) : (s.issue req).env = s.env := by
  unfold State.issue; split <;> rfl
@[simp] theorem State.issue_port (req : Request) : (s.issue req).port = s.port := by
  unfold State.issue; split <;> rfl
@[simp] theorem State.issue_call (req : Request) : (s.issue req).call = s.call := by
  unfold State.issue; split <;> rfl
@[simp] theorem State.issue_result (req : Request) : (s.issue req).result = s.result := by
  unfold State.issue; split <;> rfl
@[simp] theorem State.issue_config (req : Request) : (s.issue req).config = s.config := by
  simp [State.config]
@[simp] theorem State.issue_frameBytes (req : Request) : (s.issue req).frameBytes = s.frameBytes := by
  simp [State.frameBytes]
@[simp] theorem State.issue_blockLen (req : Request) : (s.issue req).blockLen = s.blockLen := by
  simp [State.blockLen]

/-- A request that has been issued is the outstanding one. -/
@[simp] theorem State.issue_pending (req : Request) : (s.issue req).pending = some req := by
  unfold State.issue
  split
  · assumption
  · rfl

end Sys2Proof.Machine
end

