-- ==== Sys2Proof/Laws/Request.lean ====
section
/-! SUPPORT. What the shared request, the error entry and the session's end can do, each said once. -/

namespace Sys2Proof.Machine

variable {α : Type}

/-- A response at the head of the events answers at once. -/
theorem await_head {pick : Bool → EnvEvent → Option α} {line seen : Bool} {e : EnvEvent} {r : α} (es : List EnvEvent)
    (h : pick seen e = some r) : await pick line seen (e :: es) = .answered r line seen es := by
  simp [await, h]

/-- An event that is no response is passed over. -/
theorem await_skip {pick : Bool → EnvEvent → Option α} {line seen : Bool} {e : EnvEvent} (es : List EnvEvent)
    (h : pick seen e = none) : await pick line seen (e :: es) = await pick (lineAfter line e) (seenAfter line seen e) es := by
  simp [await, h]

/-- An answer is the picked response of one of the events, and the events after it are left. -/
theorem await_answered {pick : Bool → EnvEvent → Option α} {es : List EnvEvent} :
    ∀ {line seen line' seen' : Bool} {r : α} {rest : List EnvEvent},
      await pick line seen es = .answered r line' seen' rest →
        ∃ pre e, es = pre ++ e :: rest ∧ pick seen' e = some r := by
  induction es with
  | nil => intro _ _ _ _ _ _ h; simp [await] at h
  | cons e es ih =>
    intro line seen line' seen' r rest h
    cases hp : pick seen e with
    | some x =>
      rw [await_head es hp] at h
      cases h
      exact ⟨[], e, rfl, hp⟩
    | none =>
      rw [await_skip es hp] at h
      obtain ⟨pre, e', rfl, h'⟩ := ih h
      exact ⟨e :: pre, e', rfl, h'⟩

/-- Events none of which is ever a response leave the request unanswered. -/
theorem await_of_no_response {pick : Bool → EnvEvent → Option α} {es : List EnvEvent}
    (h : ∀ e ∈ es, ∀ seen, pick seen e = none) :
    ∀ line seen : Bool, ∃ line' seen', await pick line seen es = .suspended line' seen' := by
  induction es with
  | nil => intro line seen; exact ⟨line, seen, rfl⟩
  | cons e es ih =>
    intro line seen
    rw [await_skip es (h e (by simp) seen)]
    exact ih (fun e' he' => h e' (by simp [he'])) _ _

variable {s : State} {req : Request} {pick : Bool → EnvEvent → Option α} {event : α → Event} {k : α → State → State}

/-- A request leaves the machine suspended in it, or is answered by one of the environment's events. -/
theorem request_cases (s : State) (req : Request) (pick : Bool → EnvEvent → Option α) (event : α → Event)
    (k : α → State → State) :
    (∃ line seen, s.request req pick event k = (s.issue req).hear line seen []) ∨
      ∃ r line seen rest e, e ∈ s.env ∧ pick seen e = some r ∧
        s.request req pick event k = k r ((((s.issue req).hear line seen rest).settle).emit (event r)) := by
  unfold State.request
  cases h : await pick (s.issue req).readyLine (s.issue req).readySeen (s.issue req).env with
  | suspended line seen => exact .inl ⟨line, seen, by simp only [h]⟩
  | answered r line seen rest =>
    obtain ⟨pre, e, he, hp⟩ := await_answered h
    refine .inr ⟨r, line, seen, rest, e, ?_, hp, by simp only [h]⟩
    rw [State.issue_env] at he
    simp [he]

/-- A request whose response is the environment's first event is answered at once. -/
theorem request_head {e : EnvEvent} {r : α} {rest : List EnvEvent} (henv : s.env = e :: rest)
    (h : pick (s.issue req).readySeen e = some r) :
    s.request req pick event k =
      k r ((((s.issue req).hear s.readyLine (s.issue req).readySeen rest).settle).emit (event r)) := by
  simp [State.request, henv, await_head rest h]

/-- A request whose environment holds no response stays outstanding. -/
theorem request_suspended (h : ∀ e ∈ s.env, ∀ seen, pick seen e = none) :
    ∃ line seen, s.request req pick event k = (s.issue req).hear line seen [] := by
  obtain ⟨line, seen, h'⟩ := await_of_no_response (es := s.env) h s.readyLine (s.issue req).readySeen
  exact ⟨line, seen, by simp [State.request, h']⟩

/-- The error entry records the error, as the primary one where there is none, and goes to CLOSE_SIG. -/
theorem raise_cases (s : State) (c : Cause) (info : ErrInfo) :
    (s.err = none ∧ s.raise c info = { s with err := some (s.errRec c info), phase := .closeSig }) ∨
      ∃ e, s.err = some e ∧ s.raise c info = { s with secErr := s.secErr ++ [s.errRec c info], phase := .closeSig } := by
  unfold State.raise
  rcases Option.eq_none_or_eq_some s.err with h | ⟨e, h⟩
  · exact .inl ⟨h, by rw [State.recordErr_of_none c info h]; rfl⟩
  · exact .inr ⟨e, h, by rw [State.recordErr_of_some c info e h]; rfl⟩

/-- A session ends in DONE with its channels or in FAILED with its errors. -/
theorem finish_cases (s : State) :
    (s.err = none ∧ s.finish = { s with phase := .done, outcome := some (.ok s.ch1 s.ch2) }) ∨
      ∃ e, s.err = some e ∧ s.finish = { s with phase := .failed, outcome := some (.fail e s.secErr) } := by
  rcases Option.eq_none_or_eq_some s.err with h | ⟨e, h⟩
  · exact .inl ⟨h, State.finish_of_none h⟩
  · exact .inr ⟨e, h, State.finish_of_some e h⟩

/-- A request as an operation: the step that issues it where the phase's step does, no step elsewhere. -/
theorem issuedRequest_cases (req : Request) (m : String) (f : State → State) (s : State) :
    (requestOfPhase s = some req ∧ issuedRequest req m f s = .next (f s)) ∨
      (requestOfPhase s ≠ some req ∧ issuedRequest req m f s = .refused (.notEnabled m s.phase)) := by
  unfold issuedRequest
  split
  · exact .inl ⟨‹_›, rfl⟩
  · exact .inr ⟨‹_›, rfl⟩

/-- A phase that is not busy issues no request. -/
theorem requestOfPhase_of_not_busy {s : State} (h : s.isBusy = false) : requestOfPhase s = none := by
  cases hp : s.phase <;> simp [State.isBusy, State.isDone, State.isFailed, hp] at h <;> simp [requestOfPhase, hp]

/-- A SEQ step that answers a next state ran in its own phase. -/
theorem seqStep_next {p : Phase} {m : String} {f : State → State} {s t : State} (h : seqStep p m f s = .next t) :
    s.phase = p ∧ t = f s := by
  unfold seqStep at h
  split at h
  · cases h; exact ⟨‹_›, rfl⟩
  · cases h

end Sys2Proof.Machine
end

