-- ==== Sys2Proof/Tests/Slice0.lean ====
section
/-! SUPPORT. The model's own tests: the checks refuse ill-formed terms, written-out bytes decode to their operations, the
meanings give the values of spec/95_test_vectors.md (the vector is named), and a witness for every statement of
Certificates/Slice0/Obligations.lean that has hypotheses. -/

namespace Sys2Proof.Tests

open Sys2Proof.Machine

/-! ### Helpers -/

/-- R7's defaults with identities a test can evaluate. -/
def params : Params := { Config.defaults with busId := 1, deviceId := 2, pinId := 3, busMode := 0 }

/-- Every option a parameter can switch on. -/
def openParams : Params :=
  { params with readySense := .level, readyTimeout := some 1, xferTimeout := some 1, cancellable := true }

/-- The state after reset with those parameters. -/
def fresh : State := { State.reset with params := params }

/-- The record of program P2. -/
def cfg : AcqConfig := ⟨1, 2, 2, 4, 5, 6, 0x1234⟩

/-- A session in a phase, with the environment's events; both handles open, a block of two groups announced. -/
def busy (p : Phase) (env : List EnvEvent) : State :=
  { fresh with
    phase := p, env := env, cfg := some cfg, frame := some (assembleFrame cfg), lenWord := some 2, blkLen := some 8
    busH := .opened 7, sigH := .opened 8 }

/-- An error record. -/
def oldErr : ErrRec := ⟨.transport .ioFault, .blkWait, 0, .request .blkWait⟩

/-- A close fault's record. -/
def closeErr : ErrRec := ⟨.transport .ioFault, .closeBus, 0, .request .closeBus⟩

/-- What a field is in the next state, if there is one. -/
def after {α : Type} (o : Out) (f : State → α) : Option α :=
  match o with
  | .next s => some (f s)
  | .fault _ => none
  | .refused _ => none

/-- The next state, or `s`. -/
def nextOr (o : Out) (s : State) : State :=
  match o with
  | .next t => t
  | .fault _ => s
  | .refused _ => s

/-- The fault, if there is one. -/
def faultOf (o : Out) : Option Fault :=
  match o with
  | .next _ => none
  | .fault f => some f
  | .refused _ => none

/-- The refusal, if there is one. -/
def refusalOf (o : Out) : Option Refusal :=
  match o with
  | .next _ => none
  | .fault _ => none
  | .refused r => some r

/-! ### The checks refuse ill-formed terms -/

theorem test_group_of_3_bytes_is_ill_formed : (Instr.decodeBlock [1, 2, 3]).wellFormed = false := by decide
theorem test_group_of_5_bytes_is_ill_formed : (Instr.decodeBlock [1, 2, 3, 4, 5]).wellFormed = false := by decide
theorem test_stream_of_6_bytes_is_ill_formed : (Instr.decodeStream [1, 2, 3, 4, 5, 6]).wellFormed = false := by decide
theorem test_unequal_channels_are_ill_formed : (Instr.encodeStream [1] []).wellFormed = false := by decide
theorem test_random_phase_chip_256_is_out_of_range : (AcqConfig.mk 256 0 0 0 0 0 0).inRange = false := by decide
theorem test_random_on_time_256_is_out_of_range : (AcqConfig.mk 0 256 0 0 0 0 0).inRange = false := by decide
theorem test_num_cpi_256_is_out_of_range : (AcqConfig.mk 0 0 256 0 0 0 0).inRange = false := by decide
theorem test_num_pulse_256_is_out_of_range : (AcqConfig.mk 0 0 0 256 0 0 0).inRange = false := by decide
theorem test_num_chip_256_is_out_of_range : (AcqConfig.mk 0 0 0 0 256 0 0).inRange = false := by decide
theorem test_num_cycle_256_is_out_of_range : (AcqConfig.mk 0 0 0 0 0 256 0).inRange = false := by decide
theorem test_pri_length_65536_is_out_of_range : (AcqConfig.mk 0 0 0 0 0 0 65536).inRange = false := by decide
theorem test_largest_record_is_in_range : (AcqConfig.mk 255 255 255 255 255 255 65535).inRange = true := by decide
theorem test_clock_rate_0_is_ill_formed : ({ params with clockHz := 0 } : Params).wellFormed = false := by decide
theorem test_ready_timeout_0_is_ill_formed : ({ params with readyTimeout := some 0 } : Params).wellFormed = false := by
  decide
theorem test_xfer_timeout_0_is_ill_formed : ({ params with xferTimeout := some 0 } : Params).wellFormed = false := by
  decide
theorem test_default_parameters_are_well_formed : params.wellFormed = true := by decide

/-! ### Decoding, each operation's bytes written out: its code of R99 and its operands in the layout of log 1 -/

theorem test_decode_combine : decode [0x01, 0x03, 0x04] = .ok (.combine 0x03 0x04, []) := by decide
theorem test_decode_split : decode [0x02, 0x34, 0x12] = .ok (.split 0x1234, []) := by decide
theorem test_decode_decode_block : decode [0x03, 0x00, 2, 1, 4, 3] = .ok (.decodeBlock [2, 1, 4, 3], []) := by decide
theorem test_decode_decode_block_of_3_bytes : decode [0x03, 0x04, 9, 8, 7] = .ok (.decodeBlock [9, 8, 7], []) := by decide
theorem test_decode_decode_stream : decode [0x04, 0x05, 1, 2, 3, 4, 5] = .ok (.decodeStream [1, 2, 3, 4, 5], []) := by
  decide
theorem test_decode_encode_block : decode [0x05, 0xEF, 0xBE, 0x34, 0x12] = .ok (.encodeBlock 0xBEEF 0x1234, []) := by
  decide
theorem test_decode_encode_stream :
    decode [0x06, 0x01, 0x04, 0x03, 0x02, 0x00, 0x00, 0xFF, 0x01] = .ok (.encodeStream [0x0304] [0, 0x01FF], []) := by
  decide
theorem test_decode_build_frame :
    decode [0x10, 1, 2, 0xAC, 0x02, 4, 5, 6, 0xB4, 0x24] = .ok (.buildFrame ⟨1, 2, 300, 4, 5, 6, 0x1234⟩, []) := by decide
theorem test_decode_start : decode [0x20, 1, 2, 3, 4, 5, 6, 0x7F] = .ok (.start ⟨1, 2, 3, 4, 5, 6, 127⟩, []) := by decide
theorem test_decode_open_bus : decode [0x21] = .ok (.openBus, []) := by decide
theorem test_decode_open_sig : decode [0x22] = .ok (.openSig, []) := by decide
theorem test_decode_frame : decode [0x23] = .ok (.frame, []) := by decide
theorem test_decode_cmd_xfer : decode [0x24] = .ok (.cmdXfer, []) := by decide
theorem test_decode_cmd_wait : decode [0x25] = .ok (.cmdWait, []) := by decide
theorem test_decode_len_xfer : decode [0x26] = .ok (.lenXfer, []) := by decide
theorem test_decode_blk_wait : decode [0x27] = .ok (.blkWait, []) := by decide
theorem test_decode_blk_xfer : decode [0x28] = .ok (.blkXfer, []) := by decide
theorem test_decode_close_sig : decode [0x29] = .ok (.closeSig, []) := by decide
theorem test_decode_close_bus : decode [0x2A] = .ok (.closeBus, []) := by decide
theorem test_decode_take : decode [0x2B, 0x21] = .ok (.take, [0x21]) := by decide
theorem test_decode_run_acquisition :
    decode [0x30, 1, 2, 0x80, 0x01, 4, 5, 6, 7] = .ok (.runAcquisition ⟨1, 2, 128, 4, 5, 6, 7⟩, []) := by decide
theorem test_decode_bus_open : decode [0x40] = .ok (.busOpen, []) := by decide
theorem test_decode_bus_transfer : decode [0x41, 0x07, 0x02, 0xAA, 0xBB] = .ok (.busTransfer 7 [0xAA, 0xBB], []) := by
  decide
theorem test_decode_bus_close : decode [0x42, 0x81, 0x01] = .ok (.busClose 129, []) := by decide
theorem test_decode_sig_open : decode [0x48] = .ok (.sigOpen, []) := by decide
theorem test_decode_sig_wait : decode [0x49, 0x08] = .ok (.sigWait 8, []) := by decide
theorem test_decode_sig_close : decode [0x4A, 0x08] = .ok (.sigClose 8, []) := by decide
/-- R104, I15. -/
theorem test_decode_refuses_unlisted_codes :
    decode [0x00] = .error (.unknownOperation 0x00) ∧ decode [0x2C] = .error (.unknownOperation 0x2C) ∧
    decode [0x43, 0] = .error (.unknownOperation 0x43) ∧ decode [0x4B] = .error (.unknownOperation 0x4B) := by decide
theorem test_decode_refuses_truncated_operations :
    decode [0x01, 0x03] = .error (.truncatedOperation 0x01) ∧ decode [0x04, 0x02, 1] = .error (.truncatedOperation 0x04) ∧
    decode [] = .error .noBytes := by decide
/-- The table's words alone: a code followed by zero operands. -/
theorem test_table_words :
    decodeTableWord 8 0x05 = some (.encodeBlock 0 0) ∧ decodeTableWord 8 0x03 = some (.decodeBlock [0, 0, 0, 0]) ∧
    decodeTableWord 8 0x30 = some (.runAcquisition ⟨0, 0, 0, 0, 0, 0, 0⟩) ∧ decodeTableWord 8 0x2B = some .take ∧
    decodeTableWord 8 0x07 = none := by decide
theorem test_with_fetch_word_runs_the_operation :
    after (step (State.reset.withFetchWord 8 0x20)) (·.phase) = some .openBus ∧
    after (step (State.reset.withFetchWord 8 0x41)) (·.pending) = some (some (.busTransfer 0 [])) ∧
    after (step (State.reset.withFetchWord 8 0x42)) (·.pending) = some (some (.busClose 0)) ∧
    after (step (State.reset.withFetchWord 8 0x4A)) (·.pending) = some (some (.sigClose 0)) ∧
    after (step (State.reset.withFetchWord 8 0x2B)) (·.phase) = some .idle ∧
    after (step (State.reset.withFetchWord 8 0x02)) (·.result) = some (some (.lanes 0 0)) := by decide

/-! ### The codec: V-CB7, V-CB8, V-SP8, V-DB4, V-DB9, V-DS3, V-DS6, V-EB2, V-ES3, V-ES4 -/

theorem test_combine_is_unsigned : after (exec (.combine 0x80 0x01) fresh) (·.result) = some (some (.word 0x8001)) := by
  decide
theorem test_combine_order : after (exec (.combine 0x01 0x80) fresh) (·.result) = some (some (.word 0x0180)) := by decide
theorem test_split_lanes : after (exec (.split 0xABCD) fresh) (·.result) = some (some (.lanes 0xAB 0xCD)) := by decide
theorem test_decode_block_channel_2_first :
    after (exec (.decodeBlock [0xAA, 0xBB, 0, 0]) fresh) (·.result) = some (some (.samples 0x0000 0xBBAA)) := by decide
theorem test_decode_block_of_3_bytes_faults :
    faultOf (exec (.decodeBlock [1, 2, 3]) fresh) = some (.codecShape .decodeBlock [3]) := by decide
theorem test_decode_stream_two_groups :
    after (exec (.decodeStream [2, 1, 4, 3, 0x10, 0, 0x20, 0]) fresh) (·.result) =
      some (some (.channels [0x0304, 0x0020] [0x0102, 0x0010])) := by decide
theorem test_decode_stream_of_6_bytes_faults :
    faultOf (exec (.decodeStream [1, 2, 3, 4, 5, 6]) fresh) = some (.codecShape .decodeStream [6]) := by decide
theorem test_encode_block_lanes :
    after (exec (.encodeBlock 0xBEEF 0x1234) fresh) (·.result) = some (some (.bytes [0x34, 0x12, 0xEF, 0xBE])) := by decide
theorem test_encode_stream_groups :
    after (exec (.encodeStream [1, 2, 3] [0x100, 0x200, 0x300]) fresh) (·.result) =
      some (some (.bytes [0, 1, 1, 0, 0, 2, 2, 0, 0, 3, 3, 0])) := by decide
theorem test_encode_stream_unequal_faults :
    faultOf (exec (.encodeStream [1] []) fresh) = some (.codecShape .encodeStream [1, 0]) := by decide

/-! ### The framer: V-BF4, V-BF10, V-BF12 -/

/-- Under VALIDATE, and a record out of range under TRUNCATE. -/
theorem test_build_frame :
    after (exec (.buildFrame ⟨10, 20, 16, 32, 13, 1, 1000⟩) fresh) (·.result) =
      some (some (.frame #v[0x0A, 0x14, 0x10, 0x20, 0x0D, 0x01, 0xE8, 0x03])) ∧
    after (exec (.buildFrame ⟨1, 2, 257, 4, 5, 6, 0x11234⟩)
      { fresh with params := { params with frameRangePolicy := .truncate } }) (·.result) =
      some (some (.frame #v[1, 2, 1, 4, 5, 6, 0x34, 0x12])) := by decide
theorem test_build_frame_reports_the_first_field :
    after (exec (.buildFrame ⟨256, 2, 1, 4, 5, 6, 70000⟩) fresh) (·.result) = some (some (.frameBuildError 0 256)) := by
  decide

/-! ### The host's actions: V-ST1, V-ST2, V-TK1, V-TK2 -/

theorem test_start :
    after (exec (.start cfg) { busy .idle [] with blkIdx := 3, trace := [.wait .active], err := some oldErr })
      (fun t => (t.phase, t.cfg, t.blkIdx)) = some (.openBus, some cfg, 0) ∧
    after (exec (.start cfg) { busy .idle [] with blkIdx := 3, trace := [.wait .active], err := some oldErr })
      (fun t => (t.busH, t.err, t.trace)) = some (.none, none, []) := by decide
theorem test_start_in_a_session_is_not_enabled :
    refusalOf (exec (.start cfg) (busy .blkWait [])) = some (.notEnabled "START" .blkWait) := by decide
theorem test_take :
    after (exec .take { busy .done [] with outcome := some (.ok [[1]] [[2]]) }) (fun t => (t.phase, t.result)) =
      some (.idle, some (.taken (some (.ok [[1]] [[2]])))) := by decide
theorem test_take_in_a_session_is_not_enabled :
    refusalOf (exec .take (busy .openBus [])) = some (.notEnabled "TAKE" .openBus) := by decide
theorem test_run_acquisition_starts :
    after (exec (.runAcquisition cfg) fresh) (fun t => (t.phase, t.cfg, t.call)) = some (.openBus, some cfg, true) := by
  decide
/-- Program P7: the call's result is the taken outcome, with its secondary error. -/
theorem test_run_acquisition_fails_with_the_errors :
    after (step { busy .failed [] with call := true, outcome := some (.fail oldErr [closeErr]) })
      (fun t => (t.phase, t.result, t.call)) = some (.idle, some (.protocolError oldErr [closeErr]), false) := by decide

/-! ### The SEQ steps: V-OB1, V-OB2, V-OS1, V-OS2, V-FR1, V-FR2, V-CX2, V-CX3, V-CW1, V-CW2, V-LX4, V-LX6, V-BW1, V-BW2,
V-BX2, V-BX5, V-CS2, V-CS3, V-CL2, V-CL3 -/

theorem test_open_bus_ok :
    after (exec .openBus (busy .openBus [.busOpen (.ok 9)])) (fun t => (t.phase, t.busH, t.trace)) =
      some (.openSig, .opened 9, [.busOpen 1 2 6400000 .ok]) := by decide
theorem test_open_bus_no_device :
    after (exec .openBus { busy .openBus [.busOpen (.fault .noDevice)] with busH := .none })
      (fun t => (t.phase, t.busH, t.err)) =
      some (.closeSig, .none, some ⟨.transport .noDevice, .openBus, 0, .request .busOpen⟩) := by decide
theorem test_open_sig_ok :
    after (exec .openSig (busy .openSig [.sigOpen (.ok 9)])) (fun t => (t.phase, t.sigH, t.trace)) =
      some (.frame, .opened 9, [.sigOpen 3 .ok]) := by decide
theorem test_open_sig_io_fault :
    after (exec .openSig (busy .openSig [.sigOpen (.fault .ioFault)])) (fun t => (t.phase, t.err)) =
      some (.closeSig, some ⟨.transport .ioFault, .openSig, 0, .request .sigOpen⟩) := by decide
theorem test_frame :
    after (exec .frame { busy .frame [] with frame := none }) (fun t => (t.phase, t.frame, t.trace)) =
      some (.cmdXfer, some #v[1, 2, 2, 4, 5, 6, 0x34, 0x12], []) := by decide
theorem test_frame_out_of_range :
    after (exec .frame { busy .frame [] with frame := none, cfg := some ⟨1, 2, 300, 4, 5, 6, 0x1234⟩ })
      (fun t => (t.phase, t.frame, t.err)) = some (.closeSig, none, some ⟨.fbRange, .frame, 0, .field 2 300⟩) := by decide
theorem test_cmd_xfer_discards_bytes :
    after (exec .cmdXfer { busy .cmdXfer [.xfer (.ok [9, 9, 9])] with rx := none }) (fun t => (t.phase, t.rx, t.trace)) =
      some (.cmdWait, none, [.xfer [1, 2, 2, 4, 5, 6, 0x34, 0x12] (.ok [9, 9, 9])]) := by decide
theorem test_cmd_xfer_io_fault :
    after (exec .cmdXfer (busy .cmdXfer [.xfer (.fault .ioFault)])) (fun t => (t.phase, t.err)) =
      some (.closeSig, some ⟨.transport .ioFault, .cmdXfer, 0, .request .cmdXfer⟩) := by decide
/-- A pulse that ended before the wait was issued does not complete it (V-IO5); the next one does. -/
theorem test_cmd_wait_needs_a_new_pulse :
    after (exec .cmdWait { busy .cmdWait [.wait .active] with readyLine := true, readySeen := true })
      (fun t => (t.phase, t.pending)) = some (.cmdWait, some (.sigWait 8)) ∧
    after (exec .cmdWait (busy .cmdWait [.line true, .line false, .wait .active])) (fun t => (t.phase, t.trace)) =
      some (.lenXfer, [.wait .active]) := by decide
theorem test_cmd_wait_timeout :
    after (exec .cmdWait { busy .cmdWait [.wait (.fault .waitTimeout)] with params := openParams })
      (fun t => (t.phase, t.err)) =
      some (.closeSig, some ⟨.transport .waitTimeout, .cmdWait, 0, .request .cmdWait⟩) := by decide
theorem test_len_xfer_is_little_endian :
    after (exec .lenXfer (busy .lenXfer [.xfer (.ok [0x00, 0x01])])) (fun t => (t.phase, t.lenWord, t.blkLen, t.trace)) =
      some (.blkWait, some 256, some 1024, [.xfer [0, 0] (.ok [0x00, 0x01])]) := by decide
theorem test_len_xfer_of_3_bytes :
    after (exec .lenXfer { busy .lenXfer [.xfer (.ok [2, 0, 0])] with lenWord := none })
      (fun t => (t.phase, t.lenWord, t.err)) =
      some (.closeSig, none, some ⟨.deLenSize, .lenXfer, 0, .length 3⟩) := by decide
theorem test_blk_wait_active :
    after (exec .blkWait (busy .blkWait [.line true, .wait .active])) (·.phase) = some .blkXfer := by decide
theorem test_blk_wait_cancelled :
    after (exec .blkWait { busy .blkWait [.wait (.fault .cancelled)] with params := openParams, blkIdx := 1 })
      (fun t => (t.phase, t.err)) =
      some (.closeSig, some ⟨.transport .cancelled, .blkWait, 1, .request .blkWait⟩) := by decide
theorem test_blk_xfer_last_block :
    after (exec .blkXfer
      { busy .blkXfer [.xfer (.ok [0xEF, 0xBE, 0xAD, 0xDE, 0xFF, 0xFF, 0x00, 0x80])] with
        blkIdx := 1, ch1 := [[0x0304, 0x0020]], ch2 := [[0x0102, 0x0010]] })
      (fun t => (t.phase, t.blkIdx, t.ch1, t.ch2)) =
      some (.closeSig, 2, [[0x0304, 0x0020], [0xDEAD, 0x8000]], [[0x0102, 0x0010], [0xBEEF, 0xFFFF]]) := by decide
theorem test_blk_xfer_checks_alignment_first :
    after (exec .blkXfer (busy .blkXfer [.xfer (.ok [0, 0, 0, 0, 0])])) (fun t => (t.err, t.ch1, t.blkIdx)) =
      some (some ⟨.deBlkAlign, .blkXfer, 0, .length 5⟩, [], 0) := by decide
theorem test_close_sig_fault_is_the_error :
    after (exec .closeSig { busy .closeSig [.sigClose (.fault .ioFault)] with blkIdx := 1 })
      (fun t => (t.phase, t.sigH, t.err)) =
      some (.closeBus, .released, some ⟨.transport .ioFault, .closeSig, 1, .request .closeSig⟩) := by decide
theorem test_close_sig_of_none :
    after (exec .closeSig { busy .closeSig [] with sigH := .none }) (fun t => (t.phase, t.sigH, t.trace)) =
      some (.closeBus, .none, []) := by decide
theorem test_close_bus_second_fault :
    after (exec .closeBus { busy .closeBus [.busClose (.fault .ioFault)] with err := some oldErr })
      (fun t => (t.phase, t.busH, t.err, t.outcome)) =
      some (.failed, .released, some oldErr,
        some (.fail oldErr [⟨.transport .ioFault, .closeBus, 0, .request .closeBus⟩])) := by decide
theorem test_close_bus_of_none :
    after (exec .closeBus { busy .closeBus [] with busH := .none, err := some oldErr }) (fun t => (t.phase, t.trace)) =
      some (.failed, []) := by decide

/-! ### The requests as operations: V-IO1 to V-IO9, and R241 to R249's "issued only by" -/

theorem test_bus_open :
    after (exec .busOpen (busy .openBus [.busOpen (.ok 4)])) (fun t => (t.phase, t.busH, t.trace)) =
      some (.openSig, .opened 4, [.busOpen 1 2 6400000 .ok]) := by decide
theorem test_bus_open_is_no_operation_of_the_host :
    refusalOf (step { fresh with port := [0x40] }) = some (.notEnabled "BUS_OPEN" .idle) ∧
    refusalOf (exec .busOpen (busy .openSig [])) = some (.notEnabled "BUS_OPEN" .openSig) := by decide
theorem test_bus_transfer :
    after (exec (.busTransfer 7 [0, 0]) (busy .lenXfer [.xfer (.ok [2, 0])])) (fun t => (t.phase, t.rx, t.trace)) =
      some (.blkWait, some [2, 0], [.xfer [0, 0] (.ok [2, 0])]) ∧
    refusalOf (exec (.busTransfer 7 [0, 1]) (busy .lenXfer [])) = some (.notEnabled "BUS_TRANSFER" .lenXfer) ∧
    refusalOf (exec (.busTransfer 6 [0, 0]) (busy .lenXfer [])) = some (.notEnabled "BUS_TRANSFER" .lenXfer) := by decide
/-- V-IO9: without the parameter a timeout is no response. -/
theorem test_bus_transfer_without_timeout :
    after (exec (.busTransfer 7 (zeros 8)) (busy .blkXfer [.xfer (.fault .xferTimeout)])) (fun t => (t.pending, t.trace)) =
      some (some (.busTransfer 7 (zeros 8)), []) := by decide
theorem test_bus_close :
    after (exec (.busClose 7) (busy .closeBus [.busClose (.fault .ioFault)])) (fun t => (t.phase, t.busH, t.err)) =
      some (.failed, .released, some closeErr) := by decide
/-- A handle that is released is not closed again, in the session or after it. -/
theorem test_bus_close_once :
    refusalOf (exec (.busClose 7) { busy .closeBus [] with busH := .released }) =
      some (.notEnabled "BUS_CLOSE" .closeBus) ∧
    refusalOf (step { busy .done [] with busH := .released, port := [0x42, 7] }) =
      some (.notEnabled "BUS_CLOSE" .done) := by decide
theorem test_sig_open :
    after (exec .sigOpen (busy .openSig [.sigOpen (.fault .noDevice)])) (fun t => (t.phase, t.trace)) =
      some (.closeSig, [.sigOpen 3 (.fault .noDevice)]) ∧
    refusalOf (exec .sigOpen fresh) = some (.notEnabled "SIG_OPEN" .idle) := by decide
/-- V-IO6: under LEVEL a line that is already high completes the wait. -/
theorem test_sig_wait_level :
    after (exec (.sigWait 8) { busy .blkWait [.wait .active] with params := openParams, readyLine := true })
      (·.phase) = some .blkXfer := by decide
/-- V-IO5: under EDGE a pulse before the request is lost. -/
theorem test_sig_wait_lost_pulse :
    after (exec (.sigWait 8) { busy .cmdWait [.line false, .wait .active] with readyLine := true }) (·.pending) =
      some (some (.sigWait 8)) ∧
    refusalOf (exec (.sigWait 8) fresh) = some (.notEnabled "SIG_WAIT" .idle) := by decide
theorem test_sig_close :
    after (exec (.sigClose 8) (busy .closeSig [.sigClose .ok])) (fun t => (t.phase, t.sigH, t.trace)) =
      some (.closeBus, .released, [.sigClose .ok]) ∧
    refusalOf (exec (.sigClose 8) (busy .done [])) = some (.notEnabled "SIG_CLOSE" .done) := by decide

/-! ### Witnesses: for each statement with hypotheses, states and operands that meet them together, clause by clause and at
the ends of each clause's range -/

/-- No request outstanding, no error, and the events the clause wants at the head of the queue. -/
def awaits (s : State) (p : Phase) (env : List EnvEvent) : Bool :=
  decide (s.phase = p ∧ s.pending = none ∧ s.err = none ∧ s.env = env)

theorem witness_DecodeBlockResult : ([] : List Byte).length ≠ 4 ∧ ([1, 2, 3] : List Byte).length ≠ 4 ∧
    ([1, 2, 3, 4, 5] : List Byte).length ≠ 4 := by decide
theorem witness_DecodeStreamResult : ([] : List Byte).length = 4 * 0 ∧ ([1, 2, 3, 4] : List Byte).length = 4 * 1 ∧ 0 < 1 ∧
    ([1] : List Byte).length % 4 ≠ 0 ∧ ([1, 2, 3, 4, 5, 6, 7] : List Byte).length % 4 ≠ 0 := by decide
theorem witness_EncodeStreamResult : ([] : List U16).length = ([] : List U16).length ∧
    ([1] : List U16).length = ([2] : List U16).length ∧ ([1] : List U16)[0]? = some 1 ∧ ([2] : List U16)[0]? = some 2 ∧
    ([1] : List U16).length ≠ ([] : List U16).length := by decide
theorem witness_StreamCodecInverse : ([] : List Byte).length % 4 = 0 ∧ ([1, 2, 3, 4] : List Byte).length % 4 = 0 ∧
    ([1, 2, 3, 4] : List Byte).length = 4 ∧ ([1] : List U16).length = ([2] : List U16).length := by decide
theorem witness_GroupWordView : 0x04030201 = littleEndian [1, 2, 3, 4] ∧ 0 = littleEndian [0, 0, 0, 0] ∧
    0xFFFFFFFF = littleEndian [255, 255, 255, 255] := by decide
theorem witness_BuildFrameOfRecordInRange : (AcqConfig.mk 0 0 0 0 0 0 0).inRange = true ∧
    (AcqConfig.mk 255 255 255 255 255 255 65535).inRange = true := by decide
theorem witness_BuildFrameReportsFirstField : fresh.params.frameRangePolicy = .validate ∧
    (AcqConfig.mk 256 0 0 0 0 0 0).inRange = false ∧ (AcqConfig.mk 0 0 0 0 0 0 65536).inRange = false := by decide
/-- The parameters under TRUNCATE. -/
def truncating : Params := { params with frameRangePolicy := .truncate }
theorem witness_BuildFrameTruncates : ({ fresh with params := truncating } : State).params.frameRangePolicy = .truncate := by
  decide
theorem witness_FrameWordView : (AcqConfig.mk 0 0 0 0 0 0 0).inRange = true ∧
    (AcqConfig.mk 255 255 255 255 255 255 65535).inRange = true := by decide
theorem witness_StartBeginsSession : fresh.phase = .idle ∧ fresh.pending = none ∧ fresh.call = false ∧
    (busy .openBus []).phase ≠ .idle ∧ (busy .failed []).phase ≠ .idle := by decide
theorem witness_TakeReturnsOutcome : (busy .done []).phase = .done ∧ (busy .failed []).phase = .failed ∧
    (busy .done []).call = false ∧ (busy .failed []).call = false ∧ fresh.phase ≠ .done ∧ fresh.phase ≠ .failed := by decide
theorem witness_RunBeginsSession : fresh.phase = .idle ∧ (busy .done []).phase ≠ .idle := by decide
/-- A call whose session has ended. -/
def ended (p : Phase) (o : SessionOutcome) : State := { busy p [] with call := true, outcome := some o }
theorem witness_RunCallReturns : (ended .done (.ok [[1]] [[2]])).call = true ∧
    (ended .done (.ok [[1]] [[2]])).phase = .done ∧
    (ended .done (.ok [[1]] [[2]])).outcome = some (.ok [[1]] [[2]]) ∧ (ended .failed (.fail oldErr [])).call = true ∧
    (ended .failed (.fail oldErr [closeErr])).phase = .failed ∧
    (ended .failed (.fail oldErr [closeErr])).outcome = some (.fail oldErr [closeErr]) := by decide
theorem witness_OpenBusOutcome : awaits (busy .openBus [.busOpen (.ok 0)]) .openBus [.busOpen (.ok 0)] = true ∧
    awaits (busy .openBus [.busOpen (.fault .noDevice)]) .openBus [.busOpen (.fault .noDevice)] = true ∧
    awaits (busy .openBus [.busOpen (.fault .ioFault)]) .openBus [.busOpen (.fault .ioFault)] = true := by decide
theorem witness_OpenSigOutcome : awaits (busy .openSig [.sigOpen (.ok 0)]) .openSig [.sigOpen (.ok 0)] = true ∧
    awaits (busy .openSig [.sigOpen (.fault .noDevice)]) .openSig [.sigOpen (.fault .noDevice)] = true ∧
    awaits (busy .openSig [.sigOpen (.fault .ioFault)]) .openSig [.sigOpen (.fault .ioFault)] = true := by decide
/-- A record whose last field is one too large. -/
def wideCfg : AcqConfig := ⟨255, 255, 255, 255, 255, 255, 65536⟩
theorem witness_FrameOutcome : (busy .frame []).phase = .frame ∧ (busy .frame []).cfg = some cfg ∧ cfg.inRange = true ∧
    ({ busy .frame [] with params := truncating, cfg := some wideCfg } : State).params.frameRangePolicy = .truncate ∧
    wideCfg.inRange = false ∧ (busy .frame []).params.frameRangePolicy = .validate ∧ (busy .frame []).err = none := by decide
/-- A session with every optional fault of a collaborator allowed. -/
def openBusy (p : Phase) (env : List EnvEvent) : State := { busy p env with params := openParams }
theorem witness_options : openParams.xferTimeout ≠ none ∧ openParams.readyTimeout ≠ none ∧ openParams.cancellable = true ∧
    openParams.readySense = .level ∧ params.readySense = .edge := by decide
theorem witness_CmdXferOutcome : (busy .cmdXfer []).frame = some (assembleFrame cfg) ∧
    awaits (busy .cmdXfer [.xfer (.ok [])]) .cmdXfer [.xfer (.ok [])] = true ∧
    awaits (openBusy .cmdXfer [.xfer (.fault .ioFault)]) .cmdXfer [.xfer (.fault .ioFault)] = true ∧
    awaits (openBusy .cmdXfer [.xfer (.fault .xferTimeout)]) .cmdXfer [.xfer (.fault .xferTimeout)] = true ∧
    awaits (openBusy .cmdXfer [.xfer (.fault .cancelled)]) .cmdXfer [.xfer (.fault .cancelled)] = true := by decide
theorem witness_CmdWaitOutcome : (busy .cmdWait []).readyLine = false ∧
    awaits (busy .cmdWait [.line true, .wait .active]) .cmdWait [.line true, .wait .active] = true ∧
    ({ openBusy .cmdWait [] with readyLine := true } : State).readyLine = true ∧
    awaits { openBusy .cmdWait [.wait .active] with readyLine := true } .cmdWait [.wait .active] = true ∧
    awaits (openBusy .cmdWait [.wait (.fault .ioFault)]) .cmdWait [.wait (.fault .ioFault)] = true ∧
    awaits (openBusy .cmdWait [.wait (.fault .waitTimeout)]) .cmdWait [.wait (.fault .waitTimeout)] = true ∧
    awaits (openBusy .cmdWait [.wait (.fault .cancelled)]) .cmdWait [.wait (.fault .cancelled)] = true := by decide
theorem witness_LenXferOutcome : (busy .lenXfer []).cfg = some cfg ∧
    [(0 : Byte), 0] = [params.handshakeFill.1, params.handshakeFill.2] ∧
    awaits (busy .lenXfer [.xfer (.ok [0, 1])]) .lenXfer [.xfer (.ok [0, 1])] = true ∧ ([1] : List Byte).length ≠ 2 ∧
    awaits (busy .lenXfer [.xfer (.ok [1])]) .lenXfer [.xfer (.ok [1])] = true ∧ ([1, 2, 3] : List Byte).length ≠ 2 ∧
    awaits (busy .lenXfer [.xfer (.ok [1, 2, 3])]) .lenXfer [.xfer (.ok [1, 2, 3])] = true ∧
    awaits (openBusy .lenXfer [.xfer (.fault .ioFault)]) .lenXfer [.xfer (.fault .ioFault)] = true ∧
    awaits (openBusy .lenXfer [.xfer (.fault .xferTimeout)]) .lenXfer [.xfer (.fault .xferTimeout)] = true ∧
    awaits (openBusy .lenXfer [.xfer (.fault .cancelled)]) .lenXfer [.xfer (.fault .cancelled)] = true := by decide
theorem witness_BlkWaitOutcome : (busy .blkWait []).readyLine = false ∧
    awaits (busy .blkWait [.line true, .wait .active]) .blkWait [.line true, .wait .active] = true ∧
    ({ openBusy .blkWait [] with readyLine := true } : State).readyLine = true ∧
    awaits { openBusy .blkWait [.wait .active] with readyLine := true } .blkWait [.wait .active] = true ∧
    awaits (openBusy .blkWait [.wait (.fault .ioFault)]) .blkWait [.wait (.fault .ioFault)] = true ∧
    awaits (openBusy .blkWait [.wait (.fault .waitTimeout)]) .blkWait [.wait (.fault .waitTimeout)] = true ∧
    awaits (openBusy .blkWait [.wait (.fault .cancelled)]) .blkWait [.wait (.fault .cancelled)] = true := by decide
/-- The block length 8 and, for the empty block, 0; a block one byte short and one a group short. -/
theorem witness_BlkXferOutcome : (busy .blkXfer []).cfg = some cfg ∧ (busy .blkXfer []).blkLen = some 8 ∧
    (zeros 8).length = 8 ∧ 8 % 4 = 0 ∧ awaits (busy .blkXfer [.xfer (.ok (zeros 8))]) .blkXfer [.xfer (.ok (zeros 8))] = true ∧
    ({ busy .blkXfer [.xfer (.ok [])] with blkLen := some 0 } : State).blkLen = some 0 ∧ ([] : List Byte).length = 0 ∧
    (zeros 7).length % 4 ≠ 0 ∧ awaits (busy .blkXfer [.xfer (.ok (zeros 7))]) .blkXfer [.xfer (.ok (zeros 7))] = true ∧
    (zeros 4).length % 4 = 0 ∧ (zeros 4).length ≠ 8 ∧
    awaits (busy .blkXfer [.xfer (.ok (zeros 4))]) .blkXfer [.xfer (.ok (zeros 4))] = true ∧
    awaits (openBusy .blkXfer [.xfer (.fault .ioFault)]) .blkXfer [.xfer (.fault .ioFault)] = true ∧
    awaits (openBusy .blkXfer [.xfer (.fault .xferTimeout)]) .blkXfer [.xfer (.fault .xferTimeout)] = true ∧
    awaits (openBusy .blkXfer [.xfer (.fault .cancelled)]) .blkXfer [.xfer (.fault .cancelled)] = true := by decide
theorem witness_CloseSigOutcome : (busy .closeSig []).sigH = .opened 8 ∧
    awaits (busy .closeSig [.sigClose .ok]) .closeSig [.sigClose .ok] = true ∧
    awaits (busy .closeSig [.sigClose (.fault .ioFault)]) .closeSig [.sigClose (.fault .ioFault)] = true ∧
    ({ busy .closeSig [.sigClose (.fault .ioFault)] with err := some oldErr } : State).err = some oldErr ∧
    ({ busy .closeSig [] with sigH := .none } : State).sigH = .none := by decide
theorem witness_CloseSigOutcome_without_handle :
    ∀ h, ({ busy .closeSig [] with sigH := .none } : State).sigH ≠ .opened h ∧
      ({ busy .closeSig [] with sigH := .released } : State).sigH ≠ .opened h := by simp
theorem witness_CloseBusOutcome : (busy .closeBus []).busH = .opened 7 ∧
    awaits (busy .closeBus [.busClose .ok]) .closeBus [.busClose .ok] = true ∧
    awaits (busy .closeBus [.busClose (.fault .ioFault)]) .closeBus [.busClose (.fault .ioFault)] = true ∧
    ({ busy .closeBus [.busClose .ok] with err := some oldErr } : State).err = some oldErr ∧
    ({ busy .closeBus [.busClose (.fault .ioFault)] with err := some oldErr } : State).err = some oldErr := by decide
theorem witness_CloseBusOutcome_without_handle :
    ∀ h, ({ busy .closeBus [] with busH := .none } : State).busH ≠ .opened h := by simp
theorem witness_PhaseSelectsStep :
    (∀ p ∈ [Phase.openBus, .openSig, .frame, .cmdXfer, .cmdWait, .lenXfer, .blkWait, .blkXfer, .closeSig, .closeBus],
      (busy p []).phase = p) ∧
    after (exec (.start cfg) fresh) (fun t => decide (t.phase = fresh.phase)) = some false ∧
    after (exec .take (busy .done [])) (fun t => decide (t.phase = (busy .done []).phase)) = some false ∧
    after (exec .take (busy .failed [])) (fun t => decide (t.phase = (busy .failed []).phase)) = some false := by decide
theorem witness_SeqStepsOnlyInTheirPhase : seqOperation .openBus = some .openBus ∧ (busy .closeBus []).phase ≠ .openBus ∧
    seqOperation .closeBus = some .closeBus ∧ fresh.phase ≠ .closeBus := by decide
/-- The operation is the last in the port, or another follows; a call whose session has not begun lets IDLE fetch. -/
theorem witness_StepRunsDecodedOperation : decode ({ fresh with port := [0x02, 0, 0] } : State).port = .ok (.split 0, []) ∧
    decode ({ busy .done [] with port := [0x2B, 0x20] } : State).port = .ok (.take, [0x20]) ∧
    (busy .done []).call = false ∧ (busy .failed []).call = false ∧ (busy .done []).pending = none := by decide
theorem witness_StepWithoutOperation : fresh.port = [] ∧ fresh.phase = .idle ∧ fresh.pending = none ∧
    decode ({ busy .failed [] with port := [0x00] } : State).port = .error (.unknownOperation 0) ∧
    decode ({ busy .done [] with port := [0x01, 0] } : State).port = .error (.truncatedOperation 1) := by decide
theorem witness_OpenRequestOutcome : (busy .openBus []).phase = .openBus ∧ (busy .openBus []).phase ≠ .openSig ∧
    (busy .openSig []).phase ≠ .openBus ∧
    awaits (busy .openBus [.busOpen (.ok 0)]) .openBus [.busOpen (.ok 0)] = true ∧
    awaits (busy .openSig [.sigOpen (.ok 0)]) .openSig [.sigOpen (.ok 0)] = true ∧
    awaits (busy .openBus [.busOpen (.fault .ioFault)]) .openBus [.busOpen (.fault .ioFault)] = true ∧
    awaits (busy .openSig [.sigOpen (.fault .noDevice)]) .openSig [.sigOpen (.fault .noDevice)] = true := by decide
theorem witness_TransferRequestOutcome : (busy .cmdXfer []).busH = .opened 7 ∧
    (busy .cmdXfer []).frameBytes = [1, 2, 2, 4, 5, 6, 0x34, 0x12] ∧ (busy .blkXfer []).blockLen = 8 ∧
    awaits (busy .cmdXfer [.xfer (.ok [])]) .cmdXfer [.xfer (.ok [])] = true ∧
    awaits (busy .lenXfer [.xfer (.ok [1, 0])]) .lenXfer [.xfer (.ok [1, 0])] = true ∧
    awaits (busy .blkXfer [.xfer (.ok (zeros 8))]) .blkXfer [.xfer (.ok (zeros 8))] = true ∧
    awaits (openBusy .blkXfer [.xfer (.fault .ioFault)]) .blkXfer [.xfer (.fault .ioFault)] = true ∧
    awaits (openBusy .lenXfer [.xfer (.fault .xferTimeout)]) .lenXfer [.xfer (.fault .xferTimeout)] = true ∧
    awaits (openBusy .cmdXfer [.xfer (.fault .cancelled)]) .cmdXfer [.xfer (.fault .cancelled)] = true := by decide
/-- Another handle; the phase's handle and other bytes; and a phase that sends nothing. -/
theorem witness_TransferRequestOutcome_refused : (busy .lenXfer []).busH.handle ≠ 6 ∧
    ((busy .lenXfer []).phase = .lenXfer ∧ [1, 0] ≠ [params.handshakeFill.1, params.handshakeFill.2]) ∧
    (busy .blkWait []).phase ≠ .cmdXfer ∧ (busy .blkWait []).phase ≠ .lenXfer ∧
    (busy .blkWait []).phase ≠ .blkXfer := by decide
theorem witness_WaitRequestOutcome : (busy .cmdWait []).sigH = .opened 8 ∧ (busy .cmdWait []).readyLine = false ∧
    awaits (busy .cmdWait [.line true, .wait .active]) .cmdWait [.line true, .wait .active] = true ∧
    awaits (busy .blkWait [.line true, .wait .active]) .blkWait [.line true, .wait .active] = true ∧
    awaits { openBusy .cmdWait [.wait .active] with readyLine := true } .cmdWait [.wait .active] = true ∧
    awaits { openBusy .blkWait [.wait .active] with readyLine := true } .blkWait [.wait .active] = true ∧
    awaits (openBusy .blkWait [.wait (.fault .ioFault)]) .blkWait [.wait (.fault .ioFault)] = true ∧
    awaits (openBusy .cmdWait [.wait (.fault .waitTimeout)]) .cmdWait [.wait (.fault .waitTimeout)] = true ∧
    awaits (openBusy .blkWait [.wait (.fault .cancelled)]) .blkWait [.wait (.fault .cancelled)] = true ∧
    (busy .cmdWait []).sigH.handle ≠ 9 ∧ (busy .lenXfer []).phase ≠ .cmdWait ∧ (busy .lenXfer []).phase ≠ .blkWait := by
  decide
theorem witness_CloseRequestOutcome : (busy .closeBus []).busH = .opened 7 ∧ (busy .closeSig []).sigH = .opened 8 ∧
    awaits (busy .closeBus [.busClose .ok]) .closeBus [.busClose .ok] = true ∧
    awaits (busy .closeBus [.busClose (.fault .ioFault)]) .closeBus [.busClose (.fault .ioFault)] = true ∧
    awaits (busy .closeSig [.sigClose .ok]) .closeSig [.sigClose .ok] = true ∧
    awaits (busy .closeSig [.sigClose (.fault .ioFault)]) .closeSig [.sigClose (.fault .ioFault)] = true ∧
    ({ busy .closeBus [] with busH := .released } : State).busH ≠ .opened 7 ∧ (busy .done []).phase ≠ .closeBus ∧
    ({ busy .closeSig [] with sigH := .none } : State).sigH ≠ .opened 8 ∧ (busy .failed []).phase ≠ .closeSig := by decide
/-- A session suspended in its request. -/
def suspended (p : Phase) (env : List EnvEvent) (req : Request) (seen : Bool) : State :=
  { busy p env with pending := some req, readySeen := seen }
/-- A line that was high and stays high, one that falls, and a wait outstanding with its detector clear. -/
theorem witness_EdgeWaitNeedsTransition :
    (busy .cmdWait [.line true, .wait .active]).params.readySense = .edge ∧ (busy .blkWait []).pending = none ∧
    lineRises true [.line true, .wait .active] = false ∧ lineRises true [.line false, .wait .active] = false ∧
    (suspended .blkWait [.line false] (.sigWait 8) false).pending =
      some (.sigWait (suspended .blkWait [.line false] (.sigWait 8) false).sigH.handle) ∧
    (suspended .blkWait [.line false] (.sigWait 8) false).readySeen = false ∧
    lineRises (suspended .blkWait [.line false] (.sigWait 8) false).readyLine [.line false] = false := by decide
theorem witness_SuspendedRequestGoesOn : ∀ p ∈ [Phase.cmdWait, .blkWait], ∀ seen ∈ [true, false],
    (suspended p [.wait .active] (.sigWait 8) seen).phase = p ∧
    (suspended p [.wait .active] (.sigWait 8) seen).pending =
      some (.sigWait (suspended p [.wait .active] (.sigWait 8) seen).sigH.handle) ∧
    (suspended p [.wait .active] (.sigWait 8) seen).readySeen = seen ∧
    (suspended p [.line true, .wait .active] (.sigWait 8) seen).readyLine = false ∧
    (suspended p [.line false, .line true, .wait .active] (.sigWait 8) seen).env =
      [.line false, .line true, .wait .active] ∧
    (suspended p [.wait (.fault .ioFault)] (.sigWait 8) seen).err = none := by decide
theorem witness_SuspendedRequestGoesOn_others :
    requestOfPhase (busy .lenXfer []) = some (.busTransfer 7 [0, 0]) ∧
    (Request.busTransfer 7 [0, 0]).isWait = false ∧
    requestOfPhase (busy .openBus []) = some (.busOpen 1 2 6400000) ∧ (Request.busOpen 1 2 6400000).isWait = false ∧
    requestOfPhase (busy .closeBus []) = some (.busClose 7) ∧ (Request.busClose 7).isWait = false := by decide
theorem witness_UnansweredRequestHangs : requestOfPhase (busy .cmdWait [.line true, .line false]) = some (.sigWait 8) ∧
    requestOfPhase (busy .closeSig []) = some (.sigClose 8) := by decide
theorem witness_UnansweredRequestHangs_events :
    ∀ e ∈ (busy .cmdWait [.line true, .line false]).env, ∃ level, e = .line level := by simp [busy]
theorem witness_ErrorEntry : (busy .blkXfer []).err = none ∧
    ({ busy .closeSig [] with err := some oldErr } : State).err = some oldErr := by decide
theorem witness_SessionStepsGoOn : (busy .openBus []).isBusy = true ∧ (busy .closeBus []).isBusy = true := by decide
theorem witness_ResetRegisters : State.reset = State.reset := rfl

/-- A successful session of `n` blocks of one group each, about to close its bus transport. -/
def closing (n : Nat) : State :=
  { busy .closeBus [.busClose .ok] with
    cfg := some { cfg with numCpi := n }, frame := some (assembleFrame { cfg with numCpi := n })
    lenWord := some 1, blkLen := some 4, blkIdx := n, rx := some [2, 1, 4, 3]
    ch1 := List.replicate n [0x0304], ch2 := List.replicate n [0x0102], sigH := .released
    trace := [.busOpen 1 2 6400000 .ok, .sigOpen 3 .ok, .xfer (assembleFrame { cfg with numCpi := n }).toList (.ok []),
      .wait .active, .xfer [0, 0] (.ok [1, 0])] ++
        (List.replicate n [.wait .active, .xfer [0, 0, 0, 0] (.ok [2, 1, 4, 3])]).flatten ++ [.sigClose .ok] }

theorem closing_session_inv (n : Nat) : SessionInv (closing n) := by
  refine ⟨?_, ⟨?_, ?_, ?_, ?_, ?_⟩, ⟨?_, ?_, ?_, ?_, ?_, ?_, ?_⟩, ⟨?_, ?_, ?_, ?_, ?_, ?_, ?_⟩, ⟨?_, ?_, ?_⟩, ?_⟩
  case refine_9 => simp only [closing, List.mem_append, List.mem_replicate]; rintro set (⟨_, rfl⟩ | ⟨_, rfl⟩) <;> rfl
  all_goals
    simp [closing, busy, HandlesFollowPhase, Phase.beforeFrame, Phase.afterFrame, Phase.inLoop, Phase.raises,
      State.config, blockBytes, Config.lenScale, HandleState.isOpen, PendingFollowsPhase, State.isBusy, fresh, State.reset]

/-- The next step from a closing session. -/
def closed (n : Nat) : State := nextOr (step (closing n)) (closing n)

theorem witness_SuccessfulSessionTrace : SessionInv (closing 2) ∧ TraceFollowsPhase (closing 2) ∧
    (closing 2).phase = .closeBus ∧ step (closing 2) = .next (closed 2) ∧ (closed 2).phase = .done := by
  refine ⟨closing_session_inv 2, ?_, rfl, rfl, rfl⟩
  intro _ asked h
  rw [← Option.some.inj h]
  decide
/-- The same of a session of no block. -/
theorem witness_SuccessfulSessionTrace_without_blocks : SessionInv (closing 0) ∧ TraceFollowsPhase (closing 0) ∧
    (closing 0).phase = .closeBus ∧ step (closing 0) = .next (closed 0) ∧ (closed 0).phase = .done := by
  refine ⟨closing_session_inv 0, ?_, rfl, rfl, rfl⟩
  intro _ asked h
  rw [← Option.some.inj h]
  decide
theorem witness_StepKeepsSessionInvariant : SessionInv (closing 2) ∧ step (closing 2) = .next (closed 2) :=
  ⟨closing_session_inv 2, rfl⟩
theorem witness_StepKeepsTraceOrder : SessionInv (closing 2) ∧ TraceFollowsPhase (closing 2) ∧
    step (closing 2) = .next (closed 2) :=
  ⟨closing_session_inv 2, witness_SuccessfulSessionTrace.2.1, rfl⟩
theorem witness_StepKeepsReleasesMatch : HandlesFollowPhase (closing 2) ∧ ReleasesMatch (closing 2) ∧
    step (closing 2) = .next (closed 2) :=
  ⟨(closing_session_inv 2).handles, by unfold ReleasesMatch; decide, rfl⟩
theorem witness_EveryOpenedHandleClosedOnce : HandlesFollowPhase (closing 2) ∧ ReleasesMatch (closing 2) ∧
    (closing 2).phase = .closeBus ∧ step (closing 2) = .next (closed 2) ∧ (closed 2).phase = .done :=
  ⟨(closing_session_inv 2).handles, by unfold ReleasesMatch; decide, rfl, rfl, rfl⟩
/-- A session that could open nothing, at its last step. -/
def openedNothing : State :=
  { busy .closeBus [] with
    busH := .none, sigH := .none, err := some oldErr, trace := [.busOpen 1 2 6400000 (.fault .ioFault)] }
theorem witness_EveryOpenedHandleClosedOnce_failed : HandlesFollowPhase openedNothing ∧ ReleasesMatch openedNothing ∧
    openedNothing.phase = .closeBus ∧ step openedNothing = .next (nextOr (step openedNothing) fresh) ∧
    (nextOr (step openedNothing) fresh).phase = .failed := by
  refine ⟨?_, by unfold ReleasesMatch; decide, rfl, rfl, rfl⟩
  simp [HandlesFollowPhase, openedNothing, busy, HandleState.isOpen]
theorem witness_StepKeepsResponsesAllowed : ResponsesAllowed openedNothing ∧
    step openedNothing = .next (nextOr (step openedNothing) fresh) := by
  refine ⟨?_, rfl⟩
  simp [ResponsesAllowed, openedNothing, Event.allowed, openFaults]
theorem witness_ParametersNeverWritten : step (closing 2) = .next (closed 2) := rfl
theorem witness_ConfigurationLatched : (closing 2).isBusy = true ∧ step (closing 2) = .next (closed 2) ∧
    (closing 2).phase ≠ .frame := ⟨rfl, rfl, by decide⟩
theorem witness_TraceGrowsByOneEvent : (closing 2).isBusy = true ∧ step (closing 2) = .next (closed 2) ∧
    fresh.isBusy = false ∧ step fresh = .next fresh := ⟨rfl, rfl, rfl, rfl⟩
theorem witness_FirstErrorStays : openedNothing.isBusy = true ∧ openedNothing.err = some oldErr ∧
    step openedNothing = .next (nextOr (step openedNothing) fresh) := ⟨rfl, rfl, rfl⟩
theorem witness_AccumulatorsGrowByBlocks : (busy .blkXfer [.xfer (.ok (zeros 8))]).isBusy = true ∧
    step (busy .blkXfer [.xfer (.ok (zeros 8))]) = .next (nextOr (step (busy .blkXfer [.xfer (.ok (zeros 8))])) fresh) ∧
    (nextOr (step (busy .blkXfer [.xfer (.ok (zeros 8))])) fresh).blkIdx = 1 := ⟨rfl, rfl, rfl⟩
theorem witness_PhaseTransitions : step (busy .lenXfer [.xfer (.ok [1, 0])]) =
    .next (nextOr (step (busy .lenXfer [.xfer (.ok [1, 0])])) fresh) := rfl
theorem witness_UnlistedCodesRefused : ∀ b ∈ [(0x00 : Byte), 0x07, 0x4B, 0xFF],
    b.toNat ∉ [0x01, 0x02, 0x03, 0x04, 0x05, 0x06, 0x10, 0x20, 0x21, 0x22, 0x23, 0x24, 0x25, 0x26, 0x27, 0x28, 0x29, 0x2A,
      0x2B, 0x30, 0x40, 0x41, 0x42, 0x48, 0x49, 0x4A] := by decide
/-- A host's call of `num_cpi` blocks, in the environment that scripts it. -/
def scripted (blocks : List (List Byte)) : State :=
  { fresh with
    port := encode (.runAcquisition { cfg with numCpi := blocks.length })
    env := sessionScript 7 8 [] 1 blocks }

/-- One state with its port and its environment: two blocks of one group, and no block. -/
theorem witness_RunReturnsDecodedBlocks : ∀ blocks ∈ ([[[2, 1, 4, 3], [0, 0, 0, 0]], []] : List (List (List Byte))),
    (scripted blocks).phase = .idle ∧ (scripted blocks).pending = none ∧ (scripted blocks).readyLine = false ∧
    (scripted blocks).port = encode (.runAcquisition { cfg with numCpi := blocks.length }) ∧
    ({ cfg with numCpi := blocks.length } : AcqConfig).inRange = true ∧ (∀ b ∈ blocks, b.length = 4 * (1 : U16).toNat) ∧
    (scripted blocks).env = sessionScript 7 8 [] 1 blocks := by decide

end Sys2Proof.Tests
end

section
/-! SUPPORT. What one step can do, said once: `SessionStep` lists the outcomes of a step inside a session (R181, R183 to
R194), `HostStep` those of an operation outside one (R182, R197, R198); `sessionStep_of_step` and `hostStep_of_step` tie
them to `step`. Every statement about all steps is then a case analysis over these relations. -/

namespace Sys2Proof.Machine

variable {s t : State}

/-! ### The state in which a response is dealt with -/

/-- The state after an answered request: the environment's events up to the response are heard, no request is
outstanding, and the response's event stands in the trace (R240). -/
abbrev State.respond (s : State) (line seen : Bool) (rest : List EnvEvent) (ev : Event) : State :=
  ((s.hear line seen rest).settle).emit ev

/-- Whether the request was outstanding before leaves no mark on the state after the response. -/
theorem State.settle_hear_issue (s : State) (req : Request) (line seen : Bool) (rest : List EnvEvent) :
    ((s.issue req).hear line seen rest).settle = (s.hear line seen rest).settle := by
  unfold State.issue
  split <;> rfl

/-! ### A picked response is one its contract allows -/

theorem pickBusOpen_fault {seen : Bool} {e : EnvEvent} {c : TransportCause}
    (h : pickBusOpen seen e = some (.fault c)) : openFaults c = true := by
  cases e <;> simp only [pickBusOpen, reduceCtorEq] at h
  case busOpen r => cases r <;> simp [allowOpen] at h; exact h.2 ▸ h.1

theorem pickSigOpen_fault {seen : Bool} {e : EnvEvent} {c : TransportCause}
    (h : pickSigOpen seen e = some (.fault c)) : openFaults c = true := by
  cases e <;> simp only [pickSigOpen, reduceCtorEq] at h
  case sigOpen r => cases r <;> simp [allowOpen] at h; exact h.2 ▸ h.1

theorem pickXfer_fault {p : Params} {seen : Bool} {e : EnvEvent} {c : TransportCause}
    (h : pickXfer p seen e = some (.fault c)) : xferFaults p c = true := by
  cases e <;> simp only [pickXfer, reduceCtorEq] at h
  case xfer r => cases r <;> simp [allowXfer] at h; exact h.2 ▸ h.1

theorem pickWait_fault {p : Params} {seen : Bool} {e : EnvEvent} {c : TransportCause}
    (h : pickWait p seen e = some (.fault c)) : waitFaults p c = true := by
  cases e <;> simp only [pickWait, reduceCtorEq] at h
  case wait r => cases r <;> simp [allowWait] at h; exact h.2 ▸ h.1

theorem pickWait_active {p : Params} {seen : Bool} {e : EnvEvent} (h : pickWait p seen e = some .active) :
    seen = true := by
  cases e <;> simp only [pickWait, reduceCtorEq] at h
  case wait r => cases r <;> simp [allowWait] at h; exact h

theorem pickSigClose_fault {seen : Bool} {e : EnvEvent} {c : TransportCause}
    (h : pickSigClose seen e = some (.fault c)) : closeFaults c = true := by
  cases e <;> simp only [pickSigClose, reduceCtorEq] at h
  case sigClose r => cases r <;> simp [allowClose] at h; exact h.2 ▸ h.1

theorem pickBusClose_fault {seen : Bool} {e : EnvEvent} {c : TransportCause}
    (h : pickBusClose seen e = some (.fault c)) : closeFaults c = true := by
  cases e <;> simp only [pickBusClose, reduceCtorEq] at h
  case busClose r => cases r <;> simp [allowClose] at h; exact h.2 ▸ h.1

/-! ### A step inside a session -/

/-- The event and the request site of a transport fault in a phase that raises one (R183 to R191, R271). -/
def faultEvent (s : State) (c : TransportCause) : Option (Event × RequestSite) :=
  match s.phase with
  | .openBus => some (.busOpen s.params.busId s.params.deviceId s.params.clockHz (.fault c), .busOpen)
  | .openSig => some (.sigOpen s.params.pinId (.fault c), .sigOpen)
  | .cmdXfer => some (.xfer s.frameBytes (.fault c), .cmdXfer)
  | .cmdWait => some (.wait (.fault c), .cmdWait)
  | .lenXfer => some (.xfer (handshakeBytes s.params) (.fault c), .lenXfer)
  | .blkWait => some (.wait (.fault c), .blkWait)
  | .blkXfer => some (.xfer (zeros s.blockLen) (.fault c), .blkXfer)
  | .frame | .closeSig | .closeBus | .idle | .done | .failed => none

/-- The outcomes of a step inside a session, one constructor each (R181). -/
inductive SessionStep (s : State) : State → Prop
  /-- The phase's request has no response (R295). -/
  | suspended (req : Request) (line seen : Bool) (hreq : requestOfPhase s = some req) :
      SessionStep s ((s.issue req).hear line seen [])
  /-- The phase's request is answered with an allowed fault, which is raised (R276). -/
  | faulted (c : TransportCause) (ev : Event) (site : RequestSite) (line seen : Bool) (rest : List EnvEvent)
      (hfault : faultEvent s c = some (ev, site)) (hallowed : ev.allowed s.params) :
      SessionStep s ((s.respond line seen rest ev).raise (.transport c) (.request site))
  /-- OPEN_BUS, `ok` (R183). -/
  | busOpened (h : Handle) (line seen : Bool) (rest : List EnvEvent) (hphase : s.phase = .openBus) :
      SessionStep s
        (((s.respond line seen rest (.busOpen s.params.busId s.params.deviceId s.params.clockHz .ok)).setBus
          (.opened h)).goto .openSig)
  /-- OPEN_SIG, `ok` (R184). -/
  | sigOpened (h : Handle) (line seen : Bool) (rest : List EnvEvent) (hphase : s.phase = .openSig) :
      SessionStep s (((s.respond line seen rest (.sigOpen s.params.pinId .ok)).setSig (.opened h)).goto .frame)
  /-- FRAME with a record the framer accepts (R185). -/
  | framed (f : Frame) (hphase : s.phase = .frame)
      (hbuild : buildFrame s.params.frameRangePolicy s.config = .ok f) :
      SessionStep s { s with frame := some f, phase := .cmdXfer }
  /-- FRAME with a field out of range (R185). -/
  | frameRefused (index value : Nat) (hphase : s.phase = .frame)
      (hbuild : buildFrame s.params.frameRangePolicy s.config = .error (index, value)) :
      SessionStep s (s.raise .fbRange (.field index value))
  /-- CMD_XFER, `ok` (R186). -/
  | commandSent (b : List Byte) (line seen : Bool) (rest : List EnvEvent) (hphase : s.phase = .cmdXfer) :
      SessionStep s ((s.respond line seen rest (.xfer s.frameBytes (.ok b))).goto .cmdWait)
  /-- CMD_WAIT, `active` (R187). -/
  | commandReady (line : Bool) (rest : List EnvEvent) (hphase : s.phase = .cmdWait) :
      SessionStep s ((s.respond line true rest (.wait .active)).goto .lenXfer)
  /-- LEN_XFER with two bytes (R188). -/
  | announced (b0 b1 : Byte) (line seen : Bool) (rest : List EnvEvent) (hphase : s.phase = .lenXfer) :
      SessionStep s
        { s.respond line seen rest (.xfer (handshakeBytes s.params) (.ok [b0, b1])) with
          rx := some [b0, b1], lenWord := some (combine b1 b0), blkLen := some (blockBytes (combine b1 b0))
          phase := if 0 < s.config.numCpi then .blkWait else .closeSig }
  /-- LEN_XFER with another number of bytes (R188). -/
  | lengthRefused (b : List Byte) (line seen : Bool) (rest : List EnvEvent) (hphase : s.phase = .lenXfer)
      (hlen : b.length ≠ 2) :
      SessionStep s
        (((s.respond line seen rest (.xfer (handshakeBytes s.params) (.ok b))).receive b).raise .deLenSize
          (.length b.length))
  /-- BLK_WAIT, `active` (R190). -/
  | blockReady (line : Bool) (rest : List EnvEvent) (hphase : s.phase = .blkWait) :
      SessionStep s ((s.respond line true rest (.wait .active)).goto .blkXfer)
  /-- BLK_XFER with no whole number of groups (R191). -/
  | blockMisaligned (b : List Byte) (line seen : Bool) (rest : List EnvEvent) (hphase : s.phase = .blkXfer)
      (hgroups : b.length % Config.groupLen ≠ 0) :
      SessionStep s
        (((s.respond line seen rest (.xfer (zeros s.blockLen) (.ok b))).receive b).raise .deBlkAlign
          (.length b.length))
  /-- BLK_XFER with whole groups that are not the announced block (R191). -/
  | blockMissized (b : List Byte) (line seen : Bool) (rest : List EnvEvent) (hphase : s.phase = .blkXfer)
      (hgroups : b.length % Config.groupLen = 0) (hlen : b.length ≠ s.blockLen) :
      SessionStep s
        (((s.respond line seen rest (.xfer (zeros s.blockLen) (.ok b))).receive b).raise .deBlkSize
          (.length b.length))
  /-- BLK_XFER with the announced block (R191, R192). -/
  | blockReceived (b : List Byte) (line seen : Bool) (rest : List EnvEvent) (hphase : s.phase = .blkXfer)
      (hgroups : b.length % Config.groupLen = 0) (hlen : b.length = s.blockLen) :
      SessionStep s
        ((((s.respond line seen rest (.xfer (zeros s.blockLen) (.ok b))).receive b).appendBlock (channelsOf b)).goto
          (if s.blkIdx + 1 < s.config.numCpi then .blkWait else .closeSig))
  /-- CLOSE_SIG's release, `ok` (R193). -/
  | sigClosed (line seen : Bool) (rest : List EnvEvent) (hphase : s.phase = .closeSig) (hopen : s.sigH.isOpen = true) :
      SessionStep s (((s.respond line seen rest (.sigClose .ok)).setSig .released).goto .closeBus)
  /-- CLOSE_SIG's release with an allowed fault, which is recorded (R193, R285). -/
  | sigCloseFaulted (c : TransportCause) (line seen : Bool) (rest : List EnvEvent) (hphase : s.phase = .closeSig)
      (hopen : s.sigH.isOpen = true) (hallowed : closeFaults c = true) :
      SessionStep s
        ((((s.respond line seen rest (.sigClose (.fault c))).setSig .released).recordErr (.transport c)
          (.request .closeSig)).goto .closeBus)
  /-- CLOSE_SIG with nothing to release (R193). -/
  | sigNotOpen (hphase : s.phase = .closeSig) (hclosed : s.sigH.isOpen = false) : SessionStep s (s.goto .closeBus)
  /-- CLOSE_BUS's release, `ok`, and the session's end (R194). -/
  | busClosed (line seen : Bool) (rest : List EnvEvent) (hphase : s.phase = .closeBus) (hopen : s.busH.isOpen = true) :
      SessionStep s ((s.respond line seen rest (.busClose .ok)).setBus .released).finish
  /-- CLOSE_BUS's release with an allowed fault, which is recorded, and the session's end (R194, R285). -/
  | busCloseFaulted (c : TransportCause) (line seen : Bool) (rest : List EnvEvent) (hphase : s.phase = .closeBus)
      (hopen : s.busH.isOpen = true) (hallowed : closeFaults c = true) :
      SessionStep s
        (((s.respond line seen rest (.busClose (.fault c))).setBus .released).recordErr (.transport c)
          (.request .closeBus)).finish
  /-- CLOSE_BUS with nothing to release, and the session's end (R194). -/
  | busNotOpen (hphase : s.phase = .closeBus) (hclosed : s.busH.isOpen = false) : SessionStep s s.finish

/-- The step of a phase that issues a request has one of the outcomes where each allowed response leads to one. -/
theorem sessionStep_request {α : Type} {req : Request} {pick : Bool → EnvEvent → Option α} {event : α → Event}
    {k : α → State → State} (hreq : requestOfPhase s = some req)
    (answered : ∀ r line seen rest e, pick seen e = some r →
      SessionStep s (k r (s.respond line seen rest (event r)))) :
    SessionStep s (s.request req pick event k) := by
  obtain ⟨line, seen, h⟩ | ⟨r, line, seen, rest, e, -, hpick, h⟩ := request_cases s req pick event k
  · exact h ▸ .suspended req line seen hreq
  · rw [h, State.settle_hear_issue]
    exact answered r line seen rest e hpick

theorem openBusStep_cases (hp : s.phase = .openBus) : SessionStep s (openBusStep s) := by
  unfold openBusStep State.callBusOpen
  refine sessionStep_request (by simp [requestOfPhase, hp]) ?_
  intro r line seen rest e hpick
  cases r with
  | ok h => exact .busOpened h line seen rest hp
  | fault c =>
    exact .faulted c _ _ line seen rest (by simp [faultEvent, hp, OpenResp.ack])
      (by simpa [Event.allowed, OpenResp.ack] using pickBusOpen_fault hpick)

theorem openSigStep_cases (hp : s.phase = .openSig) : SessionStep s (openSigStep s) := by
  unfold openSigStep State.callSigOpen
  refine sessionStep_request (by simp [requestOfPhase, hp]) ?_
  intro r line seen rest e hpick
  cases r with
  | ok h => exact .sigOpened h line seen rest hp
  | fault c =>
    exact .faulted c _ _ line seen rest (by simp [faultEvent, hp, OpenResp.ack])
      (by simpa [Event.allowed, OpenResp.ack] using pickSigOpen_fault hpick)

theorem frameStep_cases (hp : s.phase = .frame) : SessionStep s (frameStep s) := by
  unfold frameStep
  split
  · exact .frameRefused _ _ hp ‹_›
  · exact .framed _ hp ‹_›

theorem cmdXferStep_cases (hp : s.phase = .cmdXfer) : SessionStep s (cmdXferStep s) := by
  unfold cmdXferStep State.callTransfer
  refine sessionStep_request (by simp [requestOfPhase, hp]) ?_
  intro r line seen rest e hpick
  cases r with
  | ok b => exact .commandSent b line seen rest hp
  | fault c =>
    exact .faulted c _ _ line seen rest (by simp [faultEvent, hp])
      (by simpa [Event.allowed] using pickXfer_fault hpick)

theorem cmdWaitStep_cases (hp : s.phase = .cmdWait) : SessionStep s (cmdWaitStep s) := by
  unfold cmdWaitStep State.callWait
  refine sessionStep_request (by simp [requestOfPhase, hp]) ?_
  intro r line seen rest e hpick
  cases r with
  | active => exact pickWait_active hpick ▸ .commandReady line rest hp
  | fault c =>
    exact .faulted c _ _ line seen rest (by simp [faultEvent, hp])
      (by simpa [Event.allowed] using pickWait_fault hpick)

theorem blkWaitStep_cases (hp : s.phase = .blkWait) : SessionStep s (blkWaitStep s) := by
  unfold blkWaitStep State.callWait
  refine sessionStep_request (by simp [requestOfPhase, hp]) ?_
  intro r line seen rest e hpick
  cases r with
  | active => exact pickWait_active hpick ▸ .blockReady line rest hp
  | fault c =>
    exact .faulted c _ _ line seen rest (by simp [faultEvent, hp])
      (by simpa [Event.allowed] using pickWait_fault hpick)

/-- LEN_XFER refuses any number of bytes but two (R188). -/
theorem lenReceived_of_length_ne {b : List Byte} (h : b.length ≠ 2) (s : State) :
    lenReceived b s = (s.receive b).raise .deLenSize (.length b.length) := by
  match b, h with
  | [], _ => rfl
  | [_], _ => rfl
  | [_, _], h => exact absurd rfl h
  | _ :: _ :: _ :: _, _ => rfl

theorem lenXferStep_cases (hp : s.phase = .lenXfer) : SessionStep s (lenXferStep s) := by
  unfold lenXferStep State.callTransfer
  refine sessionStep_request (by simp [requestOfPhase, hp]) ?_
  intro r line seen rest e hpick
  cases r with
  | ok b =>
    by_cases hlen : b.length = 2
    · obtain ⟨b0, b1, rfl⟩ := List.length_eq_two.mp hlen
      exact .announced b0 b1 line seen rest hp
    · simp only [lenReceived_of_length_ne hlen]
      exact .lengthRefused b line seen rest hp hlen
  | fault c =>
    exact .faulted c _ _ line seen rest (by simp [faultEvent, hp])
      (by simpa [Event.allowed] using pickXfer_fault hpick)

/-! BLK_XFER's three outcomes on received bytes (R191, R192, R279). -/

theorem blkReceived_of_misaligned {b : List Byte} (hgroups : b.length % Config.groupLen ≠ 0) :
    blkReceived b s = (s.receive b).raise .deBlkAlign (.length b.length) := by
  simp [blkReceived, hgroups]

theorem blkReceived_of_length_ne {b : List Byte} (hgroups : b.length % Config.groupLen = 0)
    (hlen : b.length ≠ s.blockLen) : blkReceived b s = (s.receive b).raise .deBlkSize (.length b.length) := by
  simp [blkReceived, hgroups, hlen]

theorem blkReceived_of_announced {b : List Byte} (hgroups : b.length % Config.groupLen = 0)
    (hlen : b.length = s.blockLen) : blkReceived b s = ((s.receive b).appendBlock (channelsOf b)).goto
      (if s.blkIdx + 1 < s.config.numCpi then .blkWait else .closeSig) := by
  rw [blkReceived, if_neg (by simpa using hgroups), if_neg (by simpa using hlen)]
  rfl

theorem blkXferStep_cases (hp : s.phase = .blkXfer) : SessionStep s (blkXferStep s) := by
  unfold blkXferStep State.callTransfer
  refine sessionStep_request (by simp [requestOfPhase, hp]) ?_
  intro r line seen rest e hpick
  cases r with
  | ok b =>
    change SessionStep s (blkReceived b _)
    by_cases hgroups : b.length % Config.groupLen = 0
    · by_cases hlen : b.length = s.blockLen
      · rw [blkReceived_of_announced hgroups (by simpa using hlen)]
        exact .blockReceived b line seen rest hp hgroups hlen
      · rw [blkReceived_of_length_ne hgroups (by simpa using hlen)]
        exact .blockMissized b line seen rest hp hgroups hlen
    · rw [blkReceived_of_misaligned hgroups]
      exact .blockMisaligned b line seen rest hp hgroups
  | fault c =>
    exact .faulted c _ _ line seen rest (by simp [faultEvent, hp])
      (by simpa [Event.allowed] using pickXfer_fault hpick)

theorem closeSigStep_cases (hp : s.phase = .closeSig) : SessionStep s (closeSigStep s) := by
  unfold closeSigStep
  split
  next hopen =>
    unfold State.callSigClose
    refine sessionStep_request (by simp [requestOfPhase, hp, hopen]) ?_
    intro r line seen rest e hpick
    cases r with
    | ok => exact .sigClosed line seen rest hp hopen
    | fault c => exact .sigCloseFaulted c line seen rest hp hopen (pickSigClose_fault hpick)
  next hclosed => exact .sigNotOpen hp (by simpa using hclosed)

theorem closeBusStep_cases (hp : s.phase = .closeBus) : SessionStep s (closeBusStep s) := by
  unfold closeBusStep
  split
  next hopen =>
    unfold State.callBusClose
    refine sessionStep_request (by simp [requestOfPhase, hp, hopen]) ?_
    intro r line seen rest e hpick
    cases r with
    | ok => exact .busClosed line seen rest hp hopen
    | fault c => exact .busCloseFaulted c line seen rest hp hopen (pickBusClose_fault hpick)
  next hclosed => exact .busNotOpen hp (by simpa using hclosed)

theorem State.isBusy_iff : s.isBusy = true ↔ s.phase ≠ .idle ∧ s.phase ≠ .done ∧ s.phase ≠ .failed := by
  simp [State.isBusy, State.isDone, State.isFailed, and_assoc]

/-- A phase that selects an operation runs it on the state as it is (R101). -/
theorem step_of_seqOperation {i : Instr} (h : seqOperation s.phase = some i) : step s = exec i s := by
  simp [step, nextOperation, h]

/-- A phase's step, run in its phase, is the machine's step. -/
theorem step_of_phase {p : Phase} {m : String} {f : State → State} {i : Instr} (hp : s.phase = p)
    (hselect : seqOperation p = some i) (hexec : exec i s = seqStep p m f s) : step s = .next (f s) := by
  rw [step_of_seqOperation (hp ▸ hselect), hexec, seqStep, if_pos hp]

/-- Inside a session every step answers a next state, with one of the outcomes of `SessionStep` (R181, R284). -/
theorem step_of_busy (hb : s.isBusy = true) : ∃ t, step s = .next t ∧ SessionStep s t := by
  obtain ⟨hidle, hdone, hfailed⟩ := State.isBusy_iff.mp hb
  cases hp : s.phase with
  | idle => exact absurd hp hidle
  | openBus => exact ⟨_, step_of_phase hp rfl rfl, openBusStep_cases hp⟩
  | openSig => exact ⟨_, step_of_phase hp rfl rfl, openSigStep_cases hp⟩
  | frame => exact ⟨_, step_of_phase hp rfl rfl, frameStep_cases hp⟩
  | cmdXfer => exact ⟨_, step_of_phase hp rfl rfl, cmdXferStep_cases hp⟩
  | cmdWait => exact ⟨_, step_of_phase hp rfl rfl, cmdWaitStep_cases hp⟩
  | lenXfer => exact ⟨_, step_of_phase hp rfl rfl, lenXferStep_cases hp⟩
  | blkWait => exact ⟨_, step_of_phase hp rfl rfl, blkWaitStep_cases hp⟩
  | blkXfer => exact ⟨_, step_of_phase hp rfl rfl, blkXferStep_cases hp⟩
  | closeSig => exact ⟨_, step_of_phase hp rfl rfl, closeSigStep_cases hp⟩
  | closeBus => exact ⟨_, step_of_phase hp rfl rfl, closeBusStep_cases hp⟩
  | done => exact absurd hp hdone
  | failed => exact absurd hp hfailed

theorem sessionStep_of_step (hb : s.isBusy = true) (h : step s = .next t) : SessionStep s t := by
  obtain ⟨t', ht', hstep⟩ := step_of_busy hb
  obtain rfl : t' = t := by simpa [ht'] using h
  exact hstep

/-! ### A step outside a session -/

/-- The outcomes of an operation outside a session, one constructor each (R106, R182, R197, R198). -/
inductive HostStep (s : State) : State → Prop
  /-- A codec or framer operation returns its value and writes nothing (R120, R160). -/
  | returned (r : Result) : HostStep s (s.answer r)
  /-- START (R182) or RUN_ACQUISITION (R198) begins a session. -/
  | started (c : AcqConfig) (call : Bool) (hphase : s.phase = .idle) :
      HostStep s { s.startSession c with call := call }
  /-- TAKE returns the outcome (R197). -/
  | taken (hphase : s.phase = .done ∨ s.phase = .failed) : HostStep s s.takeOutcome

/-- Outside a session a SEQ step has no next state (R100). -/
theorem seqStep_ne_next {p : Phase} {m : String} {f : State → State} (hb : s.isBusy = false)
    (hp : seqOperation p ≠ none) : seqStep p m f s ≠ .next t := by
  intro h
  obtain ⟨rfl, -⟩ := seqStep_next h
  cases hs : s.phase <;> simp_all [State.isBusy, State.isDone, State.isFailed, seqOperation]

/-- Outside a session a collaborator request has no next state (R208, R253). -/
theorem issuedRequest_ne_next {req : Request} {m : String} {f : State → State} (hb : s.isBusy = false) :
    issuedRequest req m f s ≠ .next t := by
  simp [issuedRequest, requestOfPhase_of_not_busy hb]

/-- Outside a session an operation that answers a next state has one of the outcomes of `HostStep`. -/
theorem hostStep_of_exec {i : Instr} (hb : s.isBusy = false) (h : exec i s = .next t) : HostStep s t := by
  cases i with
  | combine u l => cases h; exact .returned _
  | split v => cases h; exact .returned _
  | decodeBlock g =>
    simp only [exec, execDecodeBlock] at h
    split at h <;> cases h
    exact .returned _
  | decodeStream b =>
    simp only [exec, execDecodeStream] at h
    split at h <;> cases h
    exact .returned _
  | encodeBlock x y => cases h; exact .returned _
  | encodeStream x y =>
    simp only [exec, execEncodeStream] at h
    split at h <;> cases h
    exact .returned _
  | buildFrame c =>
    simp only [exec, execBuildFrame] at h
    split at h <;> cases h
    · exact .returned _
    · exact .returned _
  | start c =>
    simp only [exec, execStart] at h
    split at h <;> cases h
    exact .started c false ‹_›
  | runAcquisition c =>
    simp only [exec, execRunAcquisition] at h
    split at h <;> cases h
    exact .started c true ‹_›
  | take =>
    simp only [exec, execTake] at h
    split at h <;> cases h
    exact .taken ‹_›
  | openBus | openSig | frame | cmdXfer | cmdWait | lenXfer | blkWait | blkXfer | closeSig | closeBus | busOpen
  | sigOpen =>
    exact absurd h (seqStep_ne_next hb (by simp [seqOperation]))
  | busTransfer | busClose | sigWait | sigClose => exact absurd h (issuedRequest_ne_next hb)

/-- Outside a session a step changes nothing, or runs an operation of the host after taking its bytes off the port
(R253; the TAKE of an outstanding call takes none, R198). -/
theorem hostStep_of_step (hb : s.isBusy = false) (h : step s = .next t) :
    t = s ∨ ∃ port, HostStep { s with port := port } t := by
  have hseq : seqOperation s.phase = none := by
    cases hp : s.phase <;> simp_all [State.isBusy, State.isDone, State.isFailed, seqOperation]
  simp only [step, nextOperation, hseq, idleOperation] at h
  split at h
  next i u hrun =>
    split at hrun
    · cases hrun
      exact .inr ⟨s.port, hostStep_of_exec hb h⟩
    · unfold hostOperation at hrun
      split at hrun
      · cases hrun
      · split at hrun <;> cases hrun
        exact .inr ⟨_, hostStep_of_exec (by exact hb) h⟩
  next => cases h; exact .inl rfl
  next => cases h

end Sys2Proof.Machine
end

section
/-! How the trace and the accumulators change in one step (R29, R36). -/

namespace Sys2Proof.Machine

variable {s t : State}

/-- A step of a session that deals with a response appends its event, with no request left outstanding; every other one
keeps the trace (R36, R240). -/
theorem SessionStep.trace_grows (h : SessionStep s t) :
    t.trace = s.trace ∨ ∃ e, t.trace = s.trace ++ [e] ∧ t.pending = none := by
  cases h with
  | suspended | framed | frameRefused | sigNotOpen | busNotOpen => exact .inl (by simp)
  | faulted | busOpened | sigOpened | commandSent | commandReady | announced | lengthRefused | blockReady
  | blockMisaligned | blockMissized | blockReceived | sigClosed | sigCloseFaulted | busClosed | busCloseFaulted =>
    exact .inr (by simp)

/-- Outside a session only an operation that begins one changes the trace, which it clears (R182). -/
theorem HostStep.trace_kept (h : HostStep s t) :
    t.trace = s.trace ∨ (t.trace = [] ∧ s.phase = .idle ∧ t.phase = .openBus) := by
  cases h with
  | returned | taken => exact .inl rfl
  | started c call hidle => exact .inr ⟨rfl, hidle, rfl⟩

/-- Settles O53, by the outcomes of a step inside a session and outside one. -/
theorem traceGrowsByOneEvent : Obligations.TraceGrowsByOneEvent := by
  unfold Obligations.TraceGrowsByOneEvent
  intro s t h
  refine ⟨fun hb => (sessionStep_of_step hb h).trace_grows, fun hb => ?_⟩
  obtain rfl | ⟨port, hstep⟩ := hostStep_of_step hb h
  · exact .inl rfl
  · exact hstep.trace_kept

/-- In a session only a received block changes the accumulators and the counter (R29, R191). -/
theorem SessionStep.accumulators_grow (h : SessionStep s t) :
    (t.ch1 = s.ch1 ∧ t.ch2 = s.ch2 ∧ t.blkIdx = s.blkIdx) ∨
    (s.phase = .blkXfer ∧ ∃ x y b, t.rx = some b ∧ decodeStream b = some (x, y) ∧ t.ch1 = s.ch1 ++ [x] ∧
      t.ch2 = s.ch2 ++ [y] ∧ t.blkIdx = s.blkIdx + 1) := by
  cases h with
  | blockReceived b line seen rest hphase hgroups =>
    exact .inr ⟨hphase, (channelsOf b).1, (channelsOf b).2, b, rfl, if_pos hgroups, by simp, by simp, by simp⟩
  | suspended | faulted | busOpened | sigOpened | framed | frameRefused | commandSent | commandReady | announced
  | lengthRefused | blockReady | blockMisaligned | blockMissized | sigClosed | sigCloseFaulted | sigNotOpen | busClosed
  | busCloseFaulted | busNotOpen => exact .inl (by simp)

/-- Settles O55, by the outcomes of a step inside a session. -/
theorem accumulatorsGrowByBlocks : Obligations.AccumulatorsGrowByBlocks := by
  unfold Obligations.AccumulatorsGrowByBlocks
  exact fun s t hb h => (sessionStep_of_step hb h).accumulators_grow

end Sys2Proof.Machine
end

section
/-! The session invariant is kept by every step (R27 to R38, R240). Each of its six parts is shown to be kept on its
own, by the outcomes of a step, from the parts it needs. -/

namespace Sys2Proof.Machine

variable {s t : State}

/-! ### The error record after an error -/

/-- After an error the session's error is the one there was, or else the new one (R277, R285). -/
@[simp] theorem State.recordErr_err (s : State) (c : Cause) (info : ErrInfo) :
    (s.recordErr c info).err = some (s.err.getD (s.errRec c info)) := by
  cases h : s.err with
  | none => simp [State.recordErr_of_none c info h]
  | some e => simp [State.recordErr_of_some c info e h, h]

@[simp] theorem State.raise_err (s : State) (c : Cause) (info : ErrInfo) :
    (s.raise c info).err = some (s.err.getD (s.errRec c info)) := State.recordErr_err s c info

/-- A fault is raised only in a phase that raises (R277). -/
theorem faultEvent_raises {c : TransportCause} {x : Event × RequestSite} (h : faultEvent s c = some x) :
    s.phase.raises = true := by
  cases hp : s.phase <;> simp_all [faultEvent, Phase.raises, Phase.beforeFrame, Phase.afterFrame]

/-! ### The handles -/

theorem HandleState.ne_of_isOpen {x : HandleState} (h : x.isOpen = true) : x ≠ .none ∧ x ≠ .released := by
  cases x <;> simp_all [HandleState.isOpen]

/-- A phase that raises leaves CLOSE_SIG handles that are not released yet (R276, R282). -/
theorem HandlesFollowPhase.raise (h : HandlesFollowPhase s) (hp : s.phase.raises = true) (ht : t.phase = .closeSig)
    (hbus : t.busH = s.busH) (hsig : t.sigH = s.sigH) : HandlesFollowPhase t := by
  have hbusOpen := @HandleState.ne_of_isOpen s.busH
  have hsigOpen := @HandleState.ne_of_isOpen s.sigH
  cases hphase : s.phase <;>
    simp_all [HandlesFollowPhase, Phase.raises, Phase.beforeFrame, Phase.afterFrame]

/-- Both handles are open while the protocol is under way. -/
theorem HandlesFollowPhase.open_of_afterFrame (h : HandlesFollowPhase s) (hp : s.phase.afterFrame = true) :
    s.busH.isOpen = true ∧ s.sigH.isOpen = true := by
  cases hphase : s.phase <;> simp_all [HandlesFollowPhase, Phase.afterFrame]

/-- Open handles fit BLK_WAIT and CLOSE_SIG, to which the block loop goes. -/
theorem handlesFollowPhase_of_open (hbus : t.busH.isOpen = true) (hsig : t.sigH.isOpen = true)
    (ht : t.phase = .blkWait ∨ t.phase = .closeSig) : HandlesFollowPhase t := by
  obtain ht | ht := ht
  · simp [HandlesFollowPhase, ht, hbus, hsig]
  · simp [HandlesFollowPhase, ht, HandleState.ne_of_isOpen hbus, HandleState.ne_of_isOpen hsig]

theorem handlesFollowPhase_closeSig (hp : s.phase = .closeSig) : HandlesFollowPhase s ↔
    s.busH ≠ .released ∧ s.sigH ≠ .released ∧ (s.busH = .none → s.sigH = .none) := by
  simp [HandlesFollowPhase, hp]

theorem handlesFollowPhase_closeBus (hp : s.phase = .closeBus) : HandlesFollowPhase s ↔
    s.busH ≠ .released ∧ s.sigH.isOpen = false ∧ (s.busH = .none → s.sigH = .none) := by
  simp [HandlesFollowPhase, hp]

/-- CLOSE_SIG releases the signal handle where it is open, and then the bus handle is open too (R193). -/
theorem HandlesFollowPhase.releaseSig (h : HandlesFollowPhase s) (hp : s.phase = .closeSig)
    (hopen : s.sigH.isOpen = true) (ht : t.phase = .closeBus) (hbus : t.busH = s.busH) (hsig : t.sigH = .released) :
    HandlesFollowPhase t := by
  obtain ⟨hbusRel, -, hnone⟩ := (handlesFollowPhase_closeSig hp).mp h
  rw [handlesFollowPhase_closeBus ht, hbus, hsig]
  exact ⟨hbusRel, rfl, fun hb => absurd (hnone hb) (HandleState.ne_of_isOpen hopen).1⟩

/-- CLOSE_BUS leaves no handle open, wherever the session ends (R194, R282). -/
theorem HandlesFollowPhase.finish (hbus : s.busH.isOpen = false) (hsig : s.sigH.isOpen = false) :
    HandlesFollowPhase s.finish := by
  obtain ⟨-, h⟩ | ⟨e, -, h⟩ := finish_cases s
  · rw [h]; exact ⟨hbus, hsig⟩
  · rw [h]; exact ⟨hbus, hsig⟩

theorem SessionStep.handlesFollowPhase (hstep : SessionStep s t) (h : HandlesFollowPhase s) : HandlesFollowPhase t := by
  cases hstep with
  | suspended => simpa [HandlesFollowPhase] using h
  | faulted c ev site line seen rest hfault => exact h.raise (faultEvent_raises hfault) rfl (by simp) (by simp)
  | frameRefused _ _ hphase | lengthRefused _ _ _ _ hphase | blockMisaligned _ _ _ _ hphase
  | blockMissized _ _ _ _ hphase => exact h.raise (hphase ▸ rfl) rfl (by simp) (by simp)
  | busOpened | sigOpened | framed | commandSent | commandReady | blockReady =>
    simp_all [HandlesFollowPhase, HandleState.isOpen]
  | announced _ _ _ _ _ hphase | blockReceived _ _ _ _ hphase =>
    obtain ⟨hbus, hsig⟩ := h.open_of_afterFrame (hphase ▸ rfl)
    exact handlesFollowPhase_of_open (by simpa using hbus) (by simpa using hsig) (ite_eq_or_eq _ _ _)
  | sigClosed _ _ _ hphase hopen | sigCloseFaulted _ _ _ _ hphase hopen =>
    exact h.releaseSig hphase hopen rfl (by simp) (by simp)
  | sigNotOpen hphase hclosed =>
    obtain ⟨hbus, -, hnone⟩ := (handlesFollowPhase_closeSig hphase).mp h
    exact (handlesFollowPhase_closeBus rfl).mpr ⟨hbus, hclosed, hnone⟩
  | busClosed _ _ _ hphase | busCloseFaulted _ _ _ _ hphase =>
    obtain ⟨-, hsig, -⟩ := (handlesFollowPhase_closeBus hphase).mp h
    exact .finish (by simp [HandleState.isOpen]) (by simpa using hsig)
  | busNotOpen hphase hclosed =>
    obtain ⟨-, hsig, -⟩ := (handlesFollowPhase_closeBus hphase).mp h
    exact .finish hclosed hsig

/-! ### The registers -/

/-- The registers that `RegistersFollowPhase` speaks of. -/
def State.setup (s : State) : Option AcqConfig × Option Frame × Option U16 × Option Nat × Params :=
  (s.cfg, s.frame, s.lenWord, s.blkLen, s.params)

/-- From the first phase to the second no register comes to be read that the first one has not written. -/
def Phase.ReadsNoMore (p q : Phase) : Prop :=
  (q ≠ .idle → p ≠ .idle) ∧ (q.beforeFrame = true → p.beforeFrame = true) ∧
    (q.afterFrame = true → p.afterFrame = true) ∧ (q.inLoop = true → p.inLoop = true)

/-- Registers that are kept follow a phase that reads no more of them. -/
theorem RegistersFollowPhase.advance (h : RegistersFollowPhase s) (hsetup : t.setup = s.setup)
    (hphase : s.phase.ReadsNoMore t.phase) : RegistersFollowPhase t := by
  simp only [State.setup, Prod.mk.injEq] at hsetup
  obtain ⟨hcfg, hframe, hlen, hblk, hparams⟩ := hsetup
  obtain ⟨hidle, hbefore, hafter, hloop⟩ := hphase
  have hconfig : t.config = s.config := by simp [State.config, hcfg]
  refine ⟨fun hp => ?_, fun hp => ?_, fun hp => ?_, fun hp => ?_, ?_⟩
  · exact hcfg ▸ h.cfgWritten (hidle hp)
  · exact hframe ▸ h.frameUnwritten (hbefore hp)
  · rw [hframe, hparams, hconfig]
    exact h.frameBuilt (hafter hp)
  · exact hlen ▸ h.lengthWritten (hloop hp)
  · rw [hblk, hlen]
    exact h.blockLength

/-- The closing phases and the ends read none of the registers but `cfg`. -/
theorem Phase.readsNoMore_of_closing {p q : Phase} (hp : p ≠ .idle) (hbefore : q.beforeFrame = false)
    (hafter : q.afterFrame = false) : p.ReadsNoMore q := by
  cases q <;> simp_all [Phase.ReadsNoMore, Phase.beforeFrame, Phase.afterFrame, Phase.inLoop]

/-- A phase that raises lies in a session. -/
theorem Phase.ne_idle_of_raises {p : Phase} (h : p.raises = true) : p ≠ .idle := by
  rintro rfl
  simp [Phase.raises, Phase.beforeFrame, Phase.afterFrame] at h

/-- A session ends in DONE or in FAILED. -/
theorem State.finish_phase (s : State) : s.finish.phase = .done ∨ s.finish.phase = .failed := by
  obtain ⟨-, h⟩ | ⟨e, -, h⟩ := finish_cases s
  · exact .inl (h ▸ rfl)
  · exact .inr (h ▸ rfl)

theorem RegistersFollowPhase.finish (h : RegistersFollowPhase s) (hp : s.phase = .closeBus)
    (hsetup : t.setup = s.setup) : RegistersFollowPhase t.finish := by
  refine h.advance (by simpa [State.setup] using hsetup) ?_
  obtain ht | ht := State.finish_phase t
  · exact Phase.readsNoMore_of_closing (by simp [hp]) (ht ▸ rfl) (ht ▸ rfl)
  · exact Phase.readsNoMore_of_closing (by simp [hp]) (ht ▸ rfl) (ht ▸ rfl)

/-- The announced length and the block length it gives are written together (R188). -/
theorem RegistersFollowPhase.announce {len : U16} (h : RegistersFollowPhase s) (hp : s.phase = .lenXfer)
    (hcfg : t.cfg = s.cfg) (hframe : t.frame = s.frame) (hparams : t.params = s.params) (hlen : t.lenWord = some len)
    (hblk : t.blkLen = some (blockBytes len)) (ht : t.phase = .blkWait ∨ t.phase = .closeSig) :
    RegistersFollowPhase t := by
  have hconfig : t.config = s.config := by simp [State.config, hcfg]
  refine ⟨fun _ => ?_, fun hb => ?_, fun _ => ?_, fun _ => ?_, ?_⟩
  · exact hcfg ▸ h.cfgWritten (by simp [hp])
  · obtain ht | ht := ht <;> simp [ht, Phase.beforeFrame] at hb
  · rw [hframe, hparams, hconfig]
    exact h.frameBuilt (hp ▸ rfl)
  · simp [hlen]
  · simp [hlen, hblk]

theorem SessionStep.registersFollowPhase (hstep : SessionStep s t) (h : RegistersFollowPhase s) :
    RegistersFollowPhase t := by
  cases hstep with
  | suspended => exact h.advance (by simp [State.setup]) (by simp [Phase.ReadsNoMore])
  | faulted c ev site line seen rest hfault =>
    exact h.advance (by simp [State.setup])
      (Phase.readsNoMore_of_closing (Phase.ne_idle_of_raises (faultEvent_raises hfault)) rfl rfl)
  | frameRefused _ _ hphase | lengthRefused _ _ _ _ hphase | blockMisaligned _ _ _ _ hphase
  | blockMissized _ _ _ _ hphase | sigClosed _ _ _ hphase | sigCloseFaulted _ _ _ _ hphase | sigNotOpen hphase =>
    exact h.advance (by simp [State.setup]) (Phase.readsNoMore_of_closing (by simp [hphase]) rfl rfl)
  | busOpened _ _ _ _ hphase | sigOpened _ _ _ _ hphase | commandSent _ _ _ _ hphase | commandReady _ _ hphase
  | blockReady _ _ hphase =>
    exact h.advance (by simp [State.setup])
      (by simp [hphase, Phase.ReadsNoMore, Phase.beforeFrame, Phase.afterFrame, Phase.inLoop])
  | framed f hphase hbuild =>
    exact ⟨fun _ => h.cfgWritten (by simp [hphase]), nofun, fun _ => ⟨f, rfl, hbuild⟩, nofun, h.blockLength⟩
  | announced b0 b1 line seen rest hphase =>
    exact h.announce hphase (by simp) (by simp) (by simp) rfl rfl (ite_eq_or_eq _ _ _)
  | blockReceived b line seen rest hphase =>
    refine h.advance (by simp [State.setup]) ?_
    simp only [State.goto_phase, hphase]
    split
    · simp [Phase.ReadsNoMore, Phase.beforeFrame, Phase.afterFrame, Phase.inLoop]
    · exact Phase.readsNoMore_of_closing (by simp) rfl rfl
  | busClosed _ _ _ hphase | busCloseFaulted _ _ _ _ hphase | busNotOpen hphase =>
    exact h.finish hphase (by simp [State.setup])

/-! ### The accumulators -/

/-- The registers that `AccumulatorsAgree` speaks of. -/
def State.samples (s : State) : Option AcqConfig × Option U16 × Nat × List (List U16) × List (List U16) :=
  (s.cfg, s.lenWord, s.blkIdx, s.ch1, s.ch2)

/-- Registers that are kept agree in a phase that claims no more of the counter. -/
theorem AccumulatorsAgree.advance (h : AccumulatorsAgree s) (hsamples : t.samples = s.samples)
    (hbefore : t.phase.raises = true → t.phase.inLoop = false → s.phase.raises = true ∧ s.phase.inLoop = false)
    (hloop : t.phase.inLoop = true → s.phase.inLoop = true)
    (hcomplete : t.phase = .closeSig ∨ t.phase = .closeBus ∨ t.phase = .done → t.err = none →
      (s.phase = .closeSig ∨ s.phase = .closeBus ∨ s.phase = .done) ∧ s.err = none) : AccumulatorsAgree t := by
  simp only [State.samples, Prod.mk.injEq] at hsamples
  obtain ⟨hcfg, hlen, hidx, hch1, hch2⟩ := hsamples
  have hconfig : t.config = s.config := by simp [State.config, hcfg]
  constructor <;> simp only [hconfig, hlen, hidx, hch1, hch2]
  case ch1Count => exact h.ch1Count
  case ch2Count => exact h.ch2Count
  case setLength => exact h.setLength
  case bound => exact h.bound
  case beforeLoop =>
    intro hr hl
    obtain ⟨hr', hl'⟩ := hbefore hr hl
    exact h.beforeLoop hr' hl'
  case inLoop => exact fun hl => h.inLoop (hloop hl)
  case complete =>
    intro hp he
    obtain ⟨hp', he'⟩ := hcomplete hp he
    exact h.complete hp' he'

/-- After an error nothing is claimed of the counter but its bound (R277). -/
theorem AccumulatorsAgree.closing_with_error {e : ErrRec} (h : AccumulatorsAgree s) (hsamples : t.samples = s.samples)
    (hraises : t.phase.raises = false) (herr : t.err = some e) : AccumulatorsAgree t := by
  refine h.advance hsamples (by simp [hraises]) (fun hl => ?_) (by simp [herr])
  cases hp : t.phase <;> simp_all [Phase.raises, Phase.beforeFrame, Phase.afterFrame, Phase.inLoop]

/-- From one phase that raises to the next the registers are kept and the loop is not entered (R183 to R190). -/
theorem AccumulatorsAgree.advance_raising (h : AccumulatorsAgree s) (hsamples : t.samples = s.samples)
    (hs : s.phase.raises = true) (ht : t.phase.raises = true) (hloop : t.phase.inLoop = s.phase.inLoop) :
    AccumulatorsAgree t := by
  refine h.advance hsamples (fun _ hl => ⟨hs, hloop ▸ hl⟩) (fun hl => hloop ▸ hl) (fun hp _ => ?_)
  obtain hp | hp | hp := hp <;> simp [hp, Phase.raises, Phase.beforeFrame, Phase.afterFrame] at ht

/-- The end of a session keeps the accumulators of CLOSE_BUS (R194 to R196). -/
theorem AccumulatorsAgree.finish (h : AccumulatorsAgree s) (hp : s.phase = .closeBus) (hsamples : t.samples = s.samples)
    (herr : t.err = none → s.err = none) : AccumulatorsAgree t.finish := by
  have hkept : t.finish.samples = s.samples := by simpa [State.samples] using hsamples
  obtain ht | ht := State.finish_phase t
  all_goals
    refine h.advance hkept (by simp [ht, Phase.raises, Phase.beforeFrame, Phase.afterFrame])
      (by simp [ht, Phase.inLoop]) (fun _ he => ⟨.inr (.inl hp), herr (by simpa using he)⟩)

/-- The sample sets of a block of `n` groups have `n` samples each (R125). -/
theorem channelsOf_length {b : List Byte} {n : Nat} (h : b.length = 4 * n) :
    (channelsOf b).1.length = n ∧ (channelsOf b).2.length = n := by
  simp [channelsOf, groupsOf_length n b h]

/-- Before the loop there is no sample set yet. -/
theorem AccumulatorsAgree.empty_beforeLoop (h : AccumulatorsAgree s) (hr : s.phase.raises = true)
    (hl : s.phase.inLoop = false) : s.blkIdx = 0 ∧ s.ch1 = [] ∧ s.ch2 = [] := by
  have hidx := h.beforeLoop hr hl
  exact ⟨hidx, List.eq_nil_of_length_eq_zero (h.ch1Count.trans hidx),
    List.eq_nil_of_length_eq_zero (h.ch2Count.trans hidx)⟩

/-- In the loop the block length is that of `len_word` groups (R25, R188). -/
theorem RegistersFollowPhase.blockLen_eq (h : RegistersFollowPhase s) (hp : s.phase.inLoop = true) :
    ∃ len, s.lenWord = some len ∧ s.blockLen = 4 * len.toNat := by
  obtain ⟨len, hlen⟩ := Option.isSome_iff_exists.mp (h.lengthWritten hp)
  exact ⟨len, hlen, by simp [State.blockLen, h.blockLength, hlen, blockBytes, Config.lenScale]⟩

/-- The announced length of a session that has no sample set yet changes no claim about one (R188, R189). -/
theorem AccumulatorsAgree.announce (h : AccumulatorsAgree s) (hp : s.phase = .lenXfer) (hcfg : t.cfg = s.cfg)
    (hidx : t.blkIdx = s.blkIdx) (hch1 : t.ch1 = s.ch1) (hch2 : t.ch2 = s.ch2)
    (ht : t.phase = if 0 < s.config.numCpi then .blkWait else .closeSig) : AccumulatorsAgree t := by
  obtain ⟨hzero, hnil1, hnil2⟩ := h.empty_beforeLoop (hp ▸ rfl) (hp ▸ rfl)
  have hconfig : t.config = s.config := by simp [State.config, hcfg]
  constructor <;> simp only [hconfig, hidx, hch1, hch2, hnil1, hnil2, hzero, ht]
  case inLoop =>
    split
    · exact fun _ => ‹_›
    · exact nofun
  case complete =>
    split
    · rintro (hq | hq | hq) <;> cases hq
    · intros; omega
  all_goals simp

/-- A block of the announced length adds one sample set of `len_word` samples to each channel (R191, R192). -/
theorem AccumulatorsAgree.appendBlock (h : AccumulatorsAgree s) (hr : RegistersFollowPhase s) (hp : s.phase = .blkXfer)
    {b : List Byte} (hb : b.length = s.blockLen) (hcfg : t.cfg = s.cfg) (hlen : t.lenWord = s.lenWord)
    (hidx : t.blkIdx = s.blkIdx + 1) (hch1 : t.ch1 = s.ch1 ++ [(channelsOf b).1])
    (hch2 : t.ch2 = s.ch2 ++ [(channelsOf b).2])
    (ht : t.phase = if s.blkIdx + 1 < s.config.numCpi then .blkWait else .closeSig) : AccumulatorsAgree t := by
  have hconfig : t.config = s.config := by simp [State.config, hcfg]
  have hbound := h.inLoop (hp ▸ rfl)
  obtain ⟨len, hword, hblk⟩ := hr.blockLen_eq (hp ▸ rfl)
  obtain ⟨hlen1, hlen2⟩ := channelsOf_length (hb.trans hblk)
  have hsets : ∀ set ∈ s.ch1 ++ s.ch2, len.toNat = set.length := by simpa [hword] using h.setLength
  constructor <;> simp only [hconfig, hidx, hch1, hch2, hlen, hword, ht]
  case ch1Count => simp [h.ch1Count]
  case ch2Count => simp [h.ch2Count]
  case setLength =>
    intro set hset
    have hcases : set ∈ s.ch1 ++ s.ch2 ∨ set = (channelsOf b).1 ∨ set = (channelsOf b).2 := by
      simp only [List.mem_append, List.mem_singleton] at hset ⊢
      tauto
    obtain hold | rfl | rfl := hcases
    · simp [hsets set hold]
    · simp [hlen1]
    · simp [hlen2]
  case bound => exact hbound
  case beforeLoop => split <;> exact nofun
  case inLoop =>
    split
    · exact fun _ => ‹_›
    · exact nofun
  case complete =>
    split
    · rintro (hq | hq | hq) <;> cases hq
    · intros; omega

theorem SessionStep.accumulatorsAgree (hstep : SessionStep s t) (h : AccumulatorsAgree s)
    (hr : RegistersFollowPhase s) : AccumulatorsAgree t := by
  cases hstep with
  | suspended =>
    exact h.advance (by simp [State.samples]) (fun hr hl => ⟨by simpa using hr, by simpa using hl⟩)
      (fun hl => by simpa using hl) (fun hp he => ⟨by simpa using hp, by simpa using he⟩)
  | faulted | frameRefused | lengthRefused | blockMisaligned | blockMissized =>
    exact h.closing_with_error (by simp [State.samples]) rfl (State.raise_err _ _ _)
  | sigCloseFaulted => exact h.closing_with_error (by simp [State.samples]) rfl (State.recordErr_err _ _ _)
  | busOpened _ _ _ _ hphase | sigOpened _ _ _ _ hphase | framed _ hphase | commandSent _ _ _ _ hphase
  | commandReady _ _ hphase | blockReady _ _ hphase =>
    exact h.advance_raising (by simp [State.samples]) (hphase ▸ rfl) rfl (by simp [hphase, Phase.inLoop])
  | announced _ _ _ _ _ hphase =>
    exact h.announce hphase (by simp) (by simp) (by simp) (by simp) rfl
  | blockReceived b _ _ _ hphase _ hlen =>
    exact h.appendBlock hr hphase hlen (by simp) (by simp) (by simp) (by simp) (by simp) rfl
  | sigClosed _ _ _ hphase | sigNotOpen hphase =>
    exact h.advance (by simp [State.samples]) nofun nofun (fun _ he => ⟨.inl hphase, by simpa using he⟩)
  | busClosed _ _ _ hphase | busCloseFaulted _ _ _ _ hphase | busNotOpen hphase =>
    exact h.finish hphase (by simp [State.samples]) (by simp)

/-! ### The errors -/

/-- The session's error after an error is recorded is no CodecShapeFault where neither the old nor the new one is. -/
theorem ErrorsFollowPhase.recorded_kind {r : ErrRec} (h : ErrorsFollowPhase s) (herr : t.err = s.err)
    (hr : r.kind ≠ .codecShapeFault) : (t.err.getD r).kind ≠ .codecShapeFault := by
  rw [herr]
  cases he : s.err with
  | none => exact hr
  | some e => exact h.protocolKind e he

/-- A session with an error may be in CLOSE_SIG and in CLOSE_BUS. -/
theorem errorsFollowPhase_of_error {e : ErrRec} (herr : t.err = some e) (hkind : e.kind ≠ .codecShapeFault)
    (ht : t.phase = .closeSig ∨ t.phase = .closeBus) : ErrorsFollowPhase t := by
  obtain ht | ht := ht
  all_goals
    constructor <;> simp [herr, ht, Phase.raises, Phase.beforeFrame, Phase.afterFrame, hkind]

/-- A session goes on without an error to a phase that raises, or to CLOSE_SIG with both handles open. -/
theorem ErrorsFollowPhase.advance (h : ErrorsFollowPhase s) (hs : s.phase.raises = true) (herr : t.err = s.err)
    (hsec : t.secErr = s.secErr)
    (ht : t.phase.raises = true ∨ t.phase = .closeSig ∧ t.busH.isOpen = true ∧ t.sigH.isOpen = true) :
    ErrorsFollowPhase t := by
  have hnone : t.err = none := herr ▸ h.noneBefore hs
  refine ⟨fun _ => hnone, fun _ => hsec ▸ h.secondary (herr ▸ hnone), fun _ => hnone, ?_, by simp [hnone], ?_, ?_⟩
  all_goals intro hp
  · simp [hp, Phase.raises, Phase.beforeFrame, Phase.afterFrame] at ht
  · intro _
    simpa [hp, Phase.raises, Phase.beforeFrame, Phase.afterFrame] using ht
  · simp [hp, Phase.raises, Phase.beforeFrame, Phase.afterFrame] at ht

/-- CLOSE_SIG without an error comes to CLOSE_BUS with the bus handle open and the signal handle released (R193). -/
theorem ErrorsFollowPhase.releaseSig (h : ErrorsFollowPhase s) (hp : s.phase = .closeSig) (herr : t.err = s.err)
    (hsec : t.secErr = s.secErr) (ht : t.phase = .closeBus) (hbus : t.busH = s.busH)
    (hsig : s.sigH.isOpen = true → t.sigH = .released) : ErrorsFollowPhase t := by
  constructor
  case closeBusOpen =>
    intro _ he
    obtain ⟨hbusOpen, hsigOpen⟩ := h.closeSigOpen hp (herr ▸ he)
    exact ⟨hbus ▸ hbusOpen, hsig hsigOpen⟩
  case secondary => rw [herr, hsec]; exact h.secondary
  case protocolKind => rw [herr]; exact h.protocolKind
  all_goals simp [ht, Phase.raises, Phase.beforeFrame, Phase.afterFrame]

/-- The end of a session is DONE without an error and FAILED with one (R194 to R196). -/
theorem ErrorsFollowPhase.finish (hsec : s.err = none → s.secErr = [])
    (hkind : ∀ e, s.err = some e → e.kind ≠ .codecShapeFault) : ErrorsFollowPhase s.finish := by
  obtain ⟨he, h⟩ | ⟨e, he, h⟩ := finish_cases s
  all_goals
    rw [h]
    constructor <;> simp_all [Phase.raises, Phase.beforeFrame, Phase.afterFrame]

theorem SessionStep.errorsFollowPhase (hstep : SessionStep s t) (h : ErrorsFollowPhase s)
    (hh : HandlesFollowPhase s) : ErrorsFollowPhase t := by
  cases hstep with
  | suspended =>
    obtain ⟨hnone, hsec, hdone, hfailed, hkind, hsig, hbus⟩ := h
    constructor <;> simpa
  | faulted | frameRefused | lengthRefused | blockMisaligned | blockMissized =>
    exact errorsFollowPhase_of_error (State.raise_err _ _ _) (h.recorded_kind (by simp) nofun) (.inl rfl)
  | busOpened _ _ _ _ hphase | sigOpened _ _ _ _ hphase | framed _ hphase | commandSent _ _ _ _ hphase
  | commandReady _ _ hphase | blockReady _ _ hphase =>
    exact h.advance (hphase ▸ rfl) (by simp) (by simp) (.inl rfl)
  | announced _ _ _ _ _ hphase | blockReceived _ _ _ _ hphase =>
    refine h.advance (hphase ▸ rfl) (by simp) (by simp) ?_
    have hopen := hh.open_of_afterFrame (hphase ▸ rfl)
    dsimp only [State.goto_phase]
    split
    · exact .inl rfl
    · exact .inr ⟨rfl, by simpa using hopen⟩
  | sigClosed _ _ _ hphase => exact h.releaseSig hphase (by simp) (by simp) rfl (by simp) (by simp)
  | sigCloseFaulted =>
    exact errorsFollowPhase_of_error (State.recordErr_err _ _ _) (h.recorded_kind (by simp) nofun) (.inr rfl)
  | sigNotOpen hphase hclosed => exact h.releaseSig hphase rfl rfl rfl rfl (by simp [hclosed])
  | busClosed | busNotOpen => exact .finish (by simpa using h.secondary) (by simpa using h.protocolKind)
  | busCloseFaulted =>
    refine .finish (by simp) (fun e he => ?_)
    rw [State.recordErr_err, Option.some.injEq] at he
    exact he ▸ h.recorded_kind (by simp) nofun

/-! ### The outcome -/

theorem outcomeFollowsPhase_of_busy (hb : t.isBusy = true) (ho : t.outcome = none) : OutcomeFollowsPhase t := by
  obtain ⟨-, hdone, hfailed⟩ := State.isBusy_iff.mp hb
  exact ⟨fun _ => ho, fun h => absurd h hdone, fun h => absurd h hfailed⟩

/-- Every end of a session writes the outcome its phase names (R34, R195, R196). -/
theorem outcomeFollowsPhase_finish (s : State) : OutcomeFollowsPhase s.finish := by
  obtain ⟨-, h⟩ | ⟨e, he, h⟩ := finish_cases s
  · rw [h]; exact ⟨nofun, fun _ => rfl, nofun⟩
  · rw [h]; exact ⟨nofun, nofun, fun _ => ⟨e, he, rfl⟩⟩

theorem SessionStep.outcomeFollowsPhase (hstep : SessionStep s t) (hb : s.isBusy = true)
    (h : OutcomeFollowsPhase s) : OutcomeFollowsPhase t := by
  have hnone := h.running hb
  cases hstep with
  | suspended => exact outcomeFollowsPhase_of_busy (by simpa [State.isBusy_iff] using hb) (by simpa using hnone)
  | faulted | frameRefused | lengthRefused | blockMisaligned | blockMissized | busOpened | sigOpened | framed
  | commandSent | commandReady | blockReady | sigClosed | sigCloseFaulted | sigNotOpen =>
    exact outcomeFollowsPhase_of_busy rfl (by simpa using hnone)
  | announced | blockReceived =>
    refine outcomeFollowsPhase_of_busy ?_ (by simpa using hnone)
    dsimp only [State.isBusy, State.isDone, State.isFailed, State.goto_phase]
    split <;> rfl
  | busClosed | busCloseFaulted | busNotOpen => exact outcomeFollowsPhase_finish _

/-! ### The outstanding request -/

theorem pendingFollowsPhase_of_none (h : t.pending = none) : PendingFollowsPhase t := by
  simp [PendingFollowsPhase, h]

/-- Where the phase issues no request none is outstanding. -/
theorem PendingFollowsPhase.none_of_quiet (h : PendingFollowsPhase s) (hq : requestOfPhase s = none) :
    s.pending = none :=
  Option.eq_none_iff_forall_ne_some.mpr fun req hreq => by simpa [hq] using h req hreq

theorem SessionStep.pendingFollowsPhase (hstep : SessionStep s t) (h : PendingFollowsPhase s) :
    PendingFollowsPhase t := by
  cases hstep with
  | suspended req line seen hreq =>
    intro req' hreq'
    obtain rfl : req = req' := by simpa using hreq'
    simpa [requestOfPhase] using hreq
  | framed _ hphase | frameRefused _ _ hphase =>
    exact pendingFollowsPhase_of_none (by simpa using h.none_of_quiet (by simp [requestOfPhase, hphase]))
  | sigNotOpen hphase hclosed | busNotOpen hphase hclosed =>
    exact pendingFollowsPhase_of_none (by simpa using h.none_of_quiet (by simp [requestOfPhase, hphase, hclosed]))
  | faulted | lengthRefused | blockMisaligned | blockMissized | busOpened | sigOpened | commandSent | commandReady
  | announced | blockReady | blockReceived | sigClosed | sigCloseFaulted | busClosed | busCloseFaulted =>
    exact pendingFollowsPhase_of_none (by simp)

/-! ### Every step -/

/-- A step inside a session keeps the invariant. -/
theorem SessionStep.sessionInv (hstep : SessionStep s t) (hb : s.isBusy = true) (h : SessionInv s) : SessionInv t where
  handles := hstep.handlesFollowPhase h.handles
  registers := hstep.registersFollowPhase h.registers
  accumulators := hstep.accumulatorsAgree h.accumulators h.registers
  errors := hstep.errorsFollowPhase h.errors h.handles
  outcome := hstep.outcomeFollowsPhase hb h.outcome
  pending := hstep.pendingFollowsPhase h.pending

/-- The host's port and the returned value are no registers of the session. -/
theorem SessionInv.with_port_result (h : SessionInv s) (port : List Byte) (result : Option Result) :
    SessionInv { s with port := port, result := result } where
  handles := h.handles
  registers := { h.registers with }
  accumulators := { h.accumulators with }
  errors := { h.errors with }
  outcome := { h.outcome with }
  pending := h.pending

/-- A session begins in the invariant, whatever was before (R182). -/
theorem sessionInv_started (s : State) (c : AcqConfig) (call : Bool) :
    SessionInv { s.startSession c with call := call } where
  handles := ⟨rfl, rfl⟩
  registers := ⟨by simp, by simp, by simp [Phase.afterFrame], by simp [Phase.inLoop], by simp⟩
  accumulators := ⟨by simp, by simp, by simp, by simp, by simp, by simp [Phase.inLoop], by simp⟩
  errors := by constructor <;> simp
  outcome := outcomeFollowsPhase_of_busy rfl rfl
  pending := pendingFollowsPhase_of_none rfl

/-- TAKE goes to IDLE, where the invariant claims least (R197). -/
theorem SessionInv.takeOutcome (h : SessionInv s) (hp : s.phase = .done ∨ s.phase = .failed) :
    SessionInv s.takeOutcome where
  handles := by obtain hp | hp := hp <;> simpa [HandlesFollowPhase, hp] using h.handles
  registers := ⟨nofun, nofun, nofun, nofun, h.registers.blockLength⟩
  accumulators := h.accumulators.advance rfl nofun nofun (by simp)
  errors := ⟨nofun, h.errors.secondary, nofun, nofun, h.errors.protocolKind, nofun, nofun⟩
  outcome := ⟨nofun, nofun, nofun⟩
  pending := pendingFollowsPhase_of_none <| h.pending.none_of_quiet <| by
    obtain hp | hp := hp <;> simp [requestOfPhase, hp]

/-- An operation outside a session keeps the invariant. -/
theorem HostStep.sessionInv (hstep : HostStep s t) (h : SessionInv s) : SessionInv t := by
  cases hstep with
  | returned r => exact h.with_port_result s.port (some r)
  | started c call => exact sessionInv_started s c call
  | taken hp => exact h.takeOutcome hp

/-- Settles O45: every outcome of a step, inside a session and outside one, keeps the six parts of the invariant. -/
theorem stepKeepsSessionInvariant : Obligations.StepKeepsSessionInvariant := by
  unfold Obligations.StepKeepsSessionInvariant
  intro s t hinv h
  cases hb : s.isBusy with
  | true => exact (sessionStep_of_step hb h).sessionInv hb hinv
  | false =>
    obtain rfl | ⟨port, hstep⟩ := hostStep_of_step hb h
    · exact hinv
    · exact hstep.sessionInv (hinv.with_port_result port s.result)

end Sys2Proof.Machine
end

section
/-! The mixed-width views of the memory layout (20_memory.md R68, R69): bytes read as one little-endian word, sixteen bits
or one field at a time. -/

namespace Sys2Proof.Machine

/-! ### The little-endian reading -/

@[simp] theorem littleEndian_nil : littleEndian [] = 0 := rfl

@[simp] theorem littleEndian_cons (b : Byte) (bs : List Byte) :
    littleEndian (b :: bs) = b.toNat + 256 * littleEndian bs := rfl

/-- The two lowest bytes of a word are the 16-bit value whose lower lane comes first (R65). -/
theorem littleEndian_combine (l u : Byte) (bs : List Byte) :
    littleEndian (l :: u :: bs) = (combine u l).toNat + 2 ^ 16 * littleEndian bs := by
  simp only [littleEndian_cons, combine_toNat]
  omega

/-- The lanes of a 16-bit value, the lower one first, are its little-endian bytes (R65). -/
theorem littleEndian_split (v : U16) : littleEndian [(split v).2, (split v).1] = v.toNat := by
  simp only [split, littleEndian_cons, littleEndian_nil, lowerLane_toNat, upperLane_toNat]
  omega

/-- A number that fits a byte is the lowest digit of the word it begins. -/
theorem littleEndian_ofNat_cons {n : Nat} (h : n ≤ 255) (bs : List Byte) :
    littleEndian (BitVec.ofNat 8 n :: bs) = n + 256 * littleEndian bs := by
  rw [littleEndian_cons, BitVec.toNat_ofNat, Nat.mod_eq_of_lt (by omega)]

/-! ### A sample group as a word (R68) -/

/-- Channel 2's sample is the lower half of the group's word, channel 1's the upper. -/
theorem littleEndian_group (b0 b1 b2 b3 : Byte) :
    littleEndian [b0, b1, b2, b3] = (combine b1 b0).toNat + 2 ^ 16 * (combine b3 b2).toNat := by
  simp only [littleEndian_combine, littleEndian_nil, Nat.mul_zero, Nat.add_zero]

/-- Settles O9: the samples are the two digits, to the base `2 ^ 16`, of the group's word. -/
theorem groupWordView : Obligations.GroupWordView := by
  unfold Obligations.GroupWordView
  rintro b0 b1 b2 b3 W rfl
  refine ⟨combine b3 b2, combine b1 b0, rfl, ?_⟩
  have hlow := (combine b1 b0).isLt
  rw [littleEndian_group]
  constructor <;> omega

/-! ### The command frame as a word (R69) -/

theorem inRange_iff (c : AcqConfig) : c.inRange = true ↔
    c.randomPhaseChip ≤ 255 ∧ c.randomOnTime ≤ 255 ∧ c.numCpi ≤ 255 ∧ c.numPulse ≤ 255 ∧ c.numChip ≤ 255 ∧
      c.numCycle ≤ 255 ∧ c.priLength ≤ 65535 := by
  simp [AcqConfig.inRange, and_assoc]

/-- The framer's search for a field that exceeds its width finds none exactly where the record is in range (R161, R162). -/
theorem firstOutOfRange_eq_none_iff (c : AcqConfig) : firstOutOfRange c = none ↔ c.inRange = true := by
  simp [firstOutOfRange, fieldLimits, inRange_iff]

/-- A record in range has its frame under either policy (R163, R164). -/
theorem buildFrame_of_inRange {c : AcqConfig} (h : c.inRange = true) (policy : RangePolicy) :
    buildFrame policy c = .ok (assembleFrame c) := by
  cases policy with
  | truncate => rfl
  | validate =>
    obtain ⟨-, hok⟩ | ⟨bad, hbad, -⟩ := buildFrame_validate c
    · exact hok
    · rw [(firstOutOfRange_eq_none_iff c).mpr h] at hbad
      cases hbad

/-- The frame's bytes: one for each of the six byte fields, then the lanes of `pri_length`, the lower one first (R164). -/
theorem assembleFrame_toList (c : AcqConfig) : (assembleFrame c).toList =
    [BitVec.ofNat 8 c.randomPhaseChip, BitVec.ofNat 8 c.randomOnTime, BitVec.ofNat 8 c.numCpi,
      BitVec.ofNat 8 c.numPulse, BitVec.ofNat 8 c.numChip, BitVec.ofNat 8 c.numCycle,
      (split (BitVec.ofNat 16 c.priLength)).2, (split (BitVec.ofNat 16 c.priLength)).1] := rfl

/-- The frame's word, field by field: each byte field in range is one digit to the base 256, and `pri_length` is what
stands above them. -/
theorem littleEndian_assembleFrame {c : AcqConfig} (h : c.inRange = true) : littleEndian (assembleFrame c).toList =
    c.randomPhaseChip + 256 * (c.randomOnTime + 256 * (c.numCpi + 256 * (c.numPulse + 256 * (c.numChip +
      256 * (c.numCycle + 256 * c.priLength))))) := by
  obtain ⟨hphaseChip, honTime, hcpi, hpulse, hchip, hcycle, hpri⟩ := (inRange_iff c).mp h
  rw [assembleFrame_toList, littleEndian_ofNat_cons hphaseChip, littleEndian_ofNat_cons honTime,
    littleEndian_ofNat_cons hcpi, littleEndian_ofNat_cons hpulse, littleEndian_ofNat_cons hchip,
    littleEndian_ofNat_cons hcycle, littleEndian_split, BitVec.toNat_ofNat, Nat.mod_eq_of_lt (by omega)]

/-- Settles O14: the fields are the digits of the frame's word. -/
theorem frameWordView : Obligations.FrameWordView := by
  unfold Obligations.FrameWordView
  intro c policy h
  refine ⟨assembleFrame c, buildFrame_of_inRange h policy, ?_⟩
  rw [littleEndian_assembleFrame h]
  omega

end Sys2Proof.Machine
end

section
/-! The encoding of the operations (30_encoding.md R99, R104; log 1): every reader of the decoder takes exactly the bytes
its writer makes, so the decoder takes an operation's bytes and leaves what follows them. -/

namespace Sys2Proof

variable {α β : Type}

/-! ### Readers and the bytes they take -/

/-- The reader takes these bytes for this value and leaves whatever follows them. -/
def Reads (r : Reader α) (bs : List Byte) (a : α) : Prop := ∀ rest, r (bs ++ rest) = some (a, rest)

theorem reads_pure (a : α) : Reads (readPure a) [] a := fun _ => rfl

/-- One reader after another takes the one's bytes and then the other's. -/
theorem Reads.andThen {r : Reader α} {f : α → Reader β} {bs cs : List Byte} {a : α} {b : β} (hr : Reads r bs a)
    (hf : Reads (f a) cs b) : Reads (readThen r f) (bs ++ cs) b := by
  intro rest
  rw [List.append_assoc, readThen, hr (cs ++ rest)]
  exact hf rest

/-- A function of what was read takes no bytes of its own. -/
theorem Reads.andPure {r : Reader α} {bs : List Byte} {a : α} (hr : Reads r bs a) (g : α → β) :
    Reads (readThen r fun x => readPure (g x)) bs (g a) :=
  List.append_nil bs ▸ hr.andThen (f := fun x => readPure (g x)) (reads_pure (g a))

theorem reads_byte (b : Byte) : Reads readByte [b] b := fun _ => rfl

/-- The two bytes of a u16 are its lanes (R65). -/
theorem wordOfLanes_wordBytes (v : U16) :
    wordOfLanes (BitVec.ofNat 8 v.toNat) (BitVec.ofNat 8 (v.toNat / 256)) = v := by
  apply BitVec.eq_of_toNat_eq
  have hv := v.isLt
  simp only [wordOfLanes, BitVec.toNat_ofNat]
  omega

theorem reads_word (v : U16) : Reads readWord (wordBytes v) v := by
  intro rest
  conv_rhs => rw [← wordOfLanes_wordBytes v]
  rfl

/-! ### Naturals: groups of 7 bits -/

/-- A byte below 128 ends a natural. -/
theorem reads_nat_last {n : Nat} (h : n < 128) : Reads readNat [BitVec.ofNat 8 n] n := by
  intro rest
  simp [readNat, Nat.mod_eq_of_lt (show n < 256 by omega), h]

/-- A byte of 128 or more gives the lowest 7 bits, and the bytes after it the others. -/
theorem reads_nat_more {n : Nat} {bs : List Byte} (h : Reads readNat bs (n / 128)) :
    Reads readNat (BitVec.ofNat 8 (128 + n % 128) :: bs) n := by
  intro rest
  have hbyte : (BitVec.ofNat 8 (128 + n % 128)).toNat = 128 + n % 128 := by
    rw [BitVec.toNat_ofNat]
    omega
  simp [readNat, hbyte, h rest, Nat.mod_add_div]

/-- A natural has no more 7-bit groups than its value, so its value is fuel enough. -/
theorem reads_natBytesFuel : ∀ {k n : Nat}, n ≤ k → Reads readNat (natBytesFuel k n) n
  | 0, n, h => reads_nat_last (by omega)
  | k + 1, n, h => by
    rw [natBytesFuel]
    split
    · exact reads_nat_last ‹_›
    · exact reads_nat_more (reads_natBytesFuel (by omega))

theorem reads_nat (n : Nat) : Reads readNat (natBytes n) n := reads_natBytesFuel le_rfl

/-! ### Sequences and records -/

theorem reads_many {r : Reader α} {bytes : α → List Byte} (h : ∀ a, Reads r (bytes a) a) :
    ∀ as : List α, Reads (readMany r as.length) (as.flatMap bytes) as
  | [] => reads_pure []
  | a :: as => (h a).andThen ((reads_many h as).andPure (a :: ·))

theorem reads_bytes (b : List Byte) : Reads (readMany readByte b.length) b b := by
  simpa using reads_many reads_byte b

theorem reads_byteSeq (b : List Byte) : Reads (readSeq readByte) (byteSeqBytes b) b :=
  (reads_nat b.length).andThen (reads_bytes b)

theorem reads_wordSeq (c : List U16) : Reads (readSeq readWord) (wordSeqBytes c) c :=
  (reads_nat c.length).andThen (reads_many reads_word c)

/-- The shape code of DECODE_BLOCK's operand stands for its length (log 1). -/
theorem groupLenOfCode_codeOfGroupLen (n : Nat) : groupLenOfCode (codeOfGroupLen n) = n := by
  unfold groupLenOfCode codeOfGroupLen
  grind

theorem reads_group (g : List Byte) : Reads readGroup (natBytes (codeOfGroupLen g.length) ++ g) g :=
  (reads_nat _).andThen <| by
    rw [groupLenOfCode_codeOfGroupLen]
    exact reads_bytes g

theorem reads_config (c : AcqConfig) : Reads readConfig (configBytes c) c := by
  simp only [configBytes, List.append_assoc]
  exact (reads_nat _).andThen <| (reads_nat _).andThen <| (reads_nat _).andThen <| (reads_nat _).andThen <|
    (reads_nat _).andThen <| (reads_nat _).andThen <| (reads_nat _).andPure _

/-! ### Operations -/

/-- The reader of an operation's code takes the bytes of its operands (R99). -/
theorem operandReader_reads (i : Instr) :
    ∃ r, operandReader i.opCode.toNat = some r ∧ Reads r (operandBytes i) i := by
  cases i with
  | combine u l => exact ⟨_, rfl, (reads_byte u).andThen ((reads_byte l).andPure _)⟩
  | split v => exact ⟨_, rfl, (reads_word v).andPure _⟩
  | decodeBlock g => exact ⟨_, rfl, (reads_group g).andPure _⟩
  | decodeStream b => exact ⟨_, rfl, (reads_byteSeq b).andPure _⟩
  | encodeBlock x y => exact ⟨_, rfl, (reads_word x).andThen ((reads_word y).andPure _)⟩
  | encodeStream x y => exact ⟨_, rfl, (reads_wordSeq x).andThen ((reads_wordSeq y).andPure _)⟩
  | buildFrame c | start c | runAcquisition c => exact ⟨_, rfl, (reads_config c).andPure _⟩
  | busTransfer h out => exact ⟨_, rfl, (reads_nat h).andThen ((reads_byteSeq out).andPure _)⟩
  | busClose h | sigWait h | sigClose h => exact ⟨_, rfl, (reads_nat h).andPure _⟩
  | openBus | openSig | frame | cmdXfer | cmdWait | lenXfer | blkWait | blkXfer | closeSig | closeBus | take
  | busOpen | sigOpen => exact ⟨_, rfl, reads_pure _⟩

/-- Settles O57: the decoder finds the operation's reader by its code, and that reader takes its operands' bytes. -/
theorem decodeEncodeRoundTrip : Obligations.DecodeEncodeRoundTrip := by
  unfold Obligations.DecodeEncodeRoundTrip
  intro i rest
  obtain ⟨r, hcode, hreads⟩ := operandReader_reads i
  simp [encode, decode, hcode, hreads rest]

theorem decode_of_encode_eq {i : Instr} {bs : List Byte} (h : encode i = bs) : decode bs = .ok (i, []) := by
  simpa [h] using decodeEncodeRoundTrip i []

/-- Settles O58: the bytes written out are those the encoder makes of each operation. -/
theorem writtenOutBytesDecode : Obligations.WrittenOutBytesDecode := by
  unfold Obligations.WrittenOutBytesDecode
  and_intros <;> exact decode_of_encode_eq rfl

/-! ### Codes that name no operation -/

/-- The 26 codes of R99. -/
def listedCodes : List Nat :=
  [0x01, 0x02, 0x03, 0x04, 0x05, 0x06, 0x10, 0x20, 0x21, 0x22, 0x23, 0x24, 0x25, 0x26, 0x27, 0x28, 0x29, 0x2A, 0x2B,
    0x30, 0x40, 0x41, 0x42, 0x48, 0x49, 0x4A]

/-- The operation map has readers for the listed codes alone (R104). -/
theorem mem_listedCodes_of_operandReader {k : Nat} {r : Reader Instr} (h : operandReader k = some r) :
    k ∈ listedCodes := by
  unfold operandReader at h
  split at h <;> simp [listedCodes] at h ⊢

/-- Settles O59: the map has no reader for the code, and the decoder names it. -/
theorem unlistedCodesRefused : Obligations.UnlistedCodesRefused := by
  unfold Obligations.UnlistedCodesRefused
  intro b bs hunlisted
  have hnone : operandReader b.toNat = none :=
    Option.eq_none_iff_forall_ne_some.mpr fun _ h => hunlisted (mem_listedCodes_of_operandReader h)
  simp [decode, hnone]

end Sys2Proof
end

section
/-! Which operation the machine runs (30_encoding.md R100, R101, R104). -/

namespace Sys2Proof.Machine

variable {s t : State}

/-! ### The SEQ steps -/

/-- Every operation a phase selects is that phase's SEQ step (R101). -/
theorem exec_eq_seqStep {p : Phase} {i : Instr} (h : seqOperation p = some i) :
    ∃ m f, ∀ s, exec i s = seqStep p m f s := by
  cases p <;> cases h <;> exact ⟨_, _, fun _ => rfl⟩

/-- A SEQ step is refused outside its phase (R100). -/
theorem seqStep_of_ne {p : Phase} (hp : s.phase ≠ p) (m : String) (f : State → State) :
    seqStep p m f s = .refused (.notEnabled m s.phase) := if_neg hp

/-- Settles O30: a phase's operation is a SEQ step of that phase, which is refused in the others. -/
theorem seqStepsOnlyInTheirPhase : Obligations.SeqStepsOnlyInTheirPhase := by
  unfold Obligations.SeqStepsOnlyInTheirPhase
  intro i p s hselect hp
  obtain ⟨m, f, hexec⟩ := exec_eq_seqStep hselect
  exact ⟨m, hexec s ▸ seqStep_of_ne hp m f⟩

/-! ### Outside a session -/

theorem isBusy_of_resting (h : s.phase = .idle ∨ s.phase = .done ∨ s.phase = .failed) : s.isBusy = false := by
  rw [Bool.eq_false_iff, ne_eq, State.isBusy_iff]
  tauto

/-- IDLE, DONE and FAILED select no SEQ step (R101). -/
theorem seqOperation_of_resting (h : s.phase = .idle ∨ s.phase = .done ∨ s.phase = .failed) :
    seqOperation s.phase = none := by
  obtain h | h | h := h <;> rw [h] <;> rfl

/-- With no call to take, a phase that selects no SEQ step leaves the next operation to the host (R101, log 3). -/
theorem nextOperation_of_resting (h : s.phase = .idle ∨ s.phase = .done ∨ s.phase = .failed)
    (hcall : s.call = false ∨ s.phase = .idle) : nextOperation s = hostOperation s := by
  have hno : ¬ (s.call = true ∧ s.phase ≠ .idle) := by
    obtain hcall | hcall := hcall <;> simp [hcall]
  simp [nextOperation, seqOperation_of_resting h, idleOperation, hno]

theorem hostOperation_of_empty (h : s.port = []) : hostOperation s = .idle := by
  simp [hostOperation, h]

theorem hostOperation_of_undecodable {e : DecodeRefusal} (hport : s.port ≠ []) (h : decode s.port = .error e) :
    hostOperation s = .undecodable e := by
  obtain ⟨b, bs, hcons⟩ := List.exists_cons_of_ne_nil hport
  rw [hcons] at h
  simp [hostOperation, hcons, h]

/-- Settles O32, by what the host's port gives: no operation, or bytes that are none. -/
theorem stepWithoutOperation : Obligations.StepWithoutOperation := by
  unfold Obligations.StepWithoutOperation
  intro s hrest hcall
  have hnext := nextOperation_of_resting hrest hcall
  constructor
  · intro hport
    rw [step, hnext, hostOperation_of_empty hport]
  · intro e hport he
    rw [step, hnext, hostOperation_of_undecodable hport he]

/-- Outside a session an operation other than START, RUN_ACQUISITION and TAKE only returns a value (R106, R120). -/
theorem exec_answers_of_resting {i : Instr} (hb : s.isBusy = false) (h : exec i s = .next t) :
    (∃ r, t = s.answer r) ∨ (∃ c, i = .start c ∨ i = .runAcquisition c) ∨ i = .take := by
  cases i with
  | start c => exact .inr (.inl ⟨c, .inl rfl⟩)
  | runAcquisition c => exact .inr (.inl ⟨c, .inr rfl⟩)
  | take => exact .inr (.inr rfl)
  | combine u l | split v | encodeBlock x y => cases h; exact .inl ⟨_, rfl⟩
  | decodeBlock g | decodeStream g | encodeStream g | buildFrame g =>
    simp only [exec, execDecodeBlock, execDecodeStream, execEncodeStream, execBuildFrame] at h
    split at h <;> cases h <;> exact .inl ⟨_, rfl⟩
  | openBus | openSig | frame | cmdXfer | cmdWait | lenXfer | blkWait | blkXfer | closeSig | closeBus | busOpen
  | sigOpen => exact absurd h (seqStep_ne_next hb (by simp [seqOperation]))
  | busTransfer | busClose | sigWait | sigClose => exact absurd h (issuedRequest_ne_next hb)

/-- Settles O29: a busy phase's step is the operation it selects; outside a session only the host's three actions do
more than return a value. -/
theorem phaseSelectsStep : Obligations.PhaseSelectsStep := by
  unfold Obligations.PhaseSelectsStep
  intro s
  have selects {p : Phase} {i : Instr} (hi : seqOperation p = some i) (hp : s.phase = p) : step s = exec i s :=
    step_of_seqOperation (hp ▸ hi)
  refine ⟨selects rfl, selects rfl, selects rfl, selects rfl, selects rfl, selects rfl, selects rfl, selects rfl,
    selects rfl, selects rfl, ?_⟩
  intro i t hrest h hmoved
  refine (exec_answers_of_resting (isBusy_of_resting hrest) h).resolve_left ?_
  rintro ⟨r, rfl⟩
  exact hmoved rfl

end Sys2Proof.Machine
end

section
/-! The framer's error: the first field of a record that exceeds its width (41_framer.md R161, R162). -/

namespace Sys2Proof.Machine

/-- The fields of a record in frame order (R22). -/
def fieldValues (c : AcqConfig) : List Nat :=
  [c.randomPhaseChip, c.randomOnTime, c.numCpi, c.numPulse, c.numChip, c.numCycle, c.priLength]

/-- The greatest value each field's width holds, in frame order (R161). -/
def fieldMaxima : List Nat := [255, 255, 255, 255, 255, 255, 65535]

theorem fieldLimits_eq_mapIdx (c : AcqConfig) :
    fieldLimits c = ((fieldValues c).zip fieldMaxima).mapIdx fun j f => (j, f) := rfl

/-- The framer's list of fields pairs each index with the value and the limit there. -/
theorem fieldLimits_getElem?_eq_some_iff {c : AcqConfig} {j k v l : Nat} : (fieldLimits c)[j]? = some (k, v, l) ↔
    j = k ∧ (fieldValues c)[j]? = some v ∧ fieldMaxima[j]? = some l := by
  simp [fieldLimits_eq_mapIdx, List.getElem?_mapIdx, List.getElem?_zip_eq_some, and_comm]

/-- What the framer reports is the first field in frame order that exceeds its limit (R162). -/
theorem firstOutOfRange_eq_some {c : AcqConfig} {j v : Nat} (h : firstOutOfRange c = some (j, v)) :
    (fieldValues c)[j]? = some v ∧ (∃ l, fieldMaxima[j]? = some l ∧ l < v) ∧
      ∀ i, i < j → ∀ w m, (fieldValues c)[i]? = some w → fieldMaxima[i]? = some m → w ≤ m := by
  obtain ⟨⟨k, w, l⟩, hfind, hbad⟩ := Option.map_eq_some_iff.mp h
  obtain ⟨rfl, rfl⟩ : k = j ∧ w = v := by simpa using hbad
  obtain ⟨hexceeds, n, hn, hfield, hearlier⟩ := List.find?_eq_some_iff_getElem.mp hfind
  obtain ⟨rfl, hvalue, hlimit⟩ := fieldLimits_getElem?_eq_some_iff.mp (List.getElem?_eq_some_iff.mpr ⟨hn, hfield⟩)
  refine ⟨hvalue, ⟨l, hlimit, by simpa using hexceeds⟩, ?_⟩
  intro i hi w' m hw hm
  obtain ⟨hi', hfield'⟩ := List.getElem?_eq_some_iff.mp (fieldLimits_getElem?_eq_some_iff.mpr ⟨rfl, hw, hm⟩)
  simpa [hfield'] using hearlier i hi

/-- A record out of range has a field that the framer reports under VALIDATE (R161, R162). -/
theorem buildFrame_of_not_inRange {c : AcqConfig} (h : c.inRange = false) :
    ∃ j v, firstOutOfRange c = some (j, v) ∧ buildFrame .validate c = .error (j, v) := by
  obtain ⟨hnone, -⟩ | ⟨⟨j, v⟩, hsome, herror⟩ := buildFrame_validate c
  · rw [firstOutOfRange_eq_none_iff, h] at hnone
    cases hnone
  · exact ⟨j, v, hsome, herror⟩

/-- BUILD_FRAME returns the framer's error (R160, log 14). -/
theorem execBuildFrame_of_error {s : State} {c : AcqConfig} {j v : Nat}
    (h : buildFrame s.params.frameRangePolicy c = .error (j, v)) :
    exec (.buildFrame c) s = .next (s.answer (.frameBuildError j v)) := by
  simp [exec, execBuildFrame, h]

/-- Settles O12: the returned value is the framer's error, which names the first field that exceeds its limit. -/
theorem buildFrameReportsFirstField : Obligations.BuildFrameReportsFirstField := by
  unfold Obligations.BuildFrameReportsFirstField
  rintro c s _ _ hpolicy hrange rfl rfl
  obtain ⟨j, v, hfirst, herror⟩ := buildFrame_of_not_inRange hrange
  obtain ⟨hvalue, ⟨l, hlimit, hexceeds⟩, hearlier⟩ := firstOutOfRange_eq_some hfirst
  exact ⟨j, v, l, execBuildFrame_of_error (hpolicy ▸ herror), herror, hvalue, hlimit, hexceeds, hearlier⟩

end Sys2Proof.Machine
end

section
/-! The codec used on its own (40_codec.md R120 to R129). A 16-bit value is its two lanes, a sample group the four lanes
of its two samples, a stream the groups of its two channels; so each encoder is the inverse of its decoder, and the k-th
group of a stream is the encoding of the k-th samples. -/

namespace Sys2Proof.Machine

/-! ### The lanes of a 16-bit value (R121 to R123) -/

@[simp] theorem combine_lanes (v : U16) : combine (upperLane v) (lowerLane v) = v := by
  apply BitVec.eq_of_toNat_eq
  rw [combine_toNat, upperLane_toNat, lowerLane_toNat]
  omega

@[simp] theorem upperLane_combine (u l : Byte) : upperLane (combine u l) = u := by
  have hl := l.isLt
  apply BitVec.eq_of_toNat_eq
  rw [upperLane_toNat, combine_toNat]
  omega

@[simp] theorem lowerLane_combine (u l : Byte) : lowerLane (combine u l) = l := by
  have hl := l.isLt
  apply BitVec.eq_of_toNat_eq
  rw [lowerLane_toNat, combine_toNat]
  omega

/-- Settles O3: the lanes are the two digits of a value to the base 256. -/
theorem combineSplitInverse : Obligations.CombineSplitInverse := by
  unfold Obligations.CombineSplitInverse
  exact ⟨combine_lanes, fun u l => Prod.ext (upperLane_combine u l) (lowerLane_combine u l)⟩

/-- Settles O1: the returned value is `combine`, whose value is a number of two digits to the base 256. -/
theorem combineJoinsLanes : Obligations.CombineJoinsLanes := by
  unfold Obligations.CombineJoinsLanes
  exact fun u l s => ⟨rfl, combine u l, rfl, combine_toNat u l, rfl⟩

/-- Settles O2: the returned lanes are the value's two digits to the base 256. -/
theorem splitSeparatesLanes : Obligations.SplitSeparatesLanes := by
  unfold Obligations.SplitSeparatesLanes
  exact fun v s => ⟨rfl, upperLane v, lowerLane v, rfl, rfl, upperLane_toNat v, lowerLane_toNat v, rfl⟩

/-! ### Blocks (R124, R126) -/

theorem decodeBlock_encodeBlock (x y : U16) : decodeBlock (encodeBlock x y) = some (x, y) := by
  simp [encodeBlock, decodeBlock, groupSamples]

theorem encodeBlock_groupSamples (g0 g1 g2 g3 : Byte) :
    encodeBlock (groupSamples g0 g1 g2 g3).1 (groupSamples g0 g1 g2 g3).2 = [g0, g1, g2, g3] := by
  simp [encodeBlock, groupSamples]

theorem decodeBlock_of_length_ne {g : List Byte} (h : g.length ≠ 4) : decodeBlock g = none := by
  unfold decodeBlock
  split
  · exact absurd rfl h
  · rfl

/-- DECODE_BLOCK of four bytes (R124). -/
theorem exec_decodeBlock (g0 g1 g2 g3 : Byte) (s : State) :
    exec (.decodeBlock [g0, g1, g2, g3]) s = .next (s.answer (.samples (combine g3 g2) (combine g1 g0))) := rfl

/-- DECODE_BLOCK of any other length (R124, R281). -/
theorem exec_decodeBlock_of_length_ne {g : List Byte} (h : g.length ≠ 4) (s : State) :
    exec (.decodeBlock g) s = .fault (.codecShape .decodeBlock [g.length]) := by
  simp [exec, execDecodeBlock, decodeBlock_of_length_ne h]

/-- Settles O4: four bytes are the lanes of two samples, and no other group decodes. -/
theorem decodeBlockResult : Obligations.DecodeBlockResult := by
  unfold Obligations.DecodeBlockResult
  refine ⟨fun _ => rfl, fun b0 b1 b2 b3 s => ?_, fun g s hlen => ?_⟩
  · exact ⟨combine b3 b2, combine b1 b0, combine_toNat b3 b2, combine_toNat b1 b0, exec_decodeBlock b0 b1 b2 b3 s⟩
  · exact exec_decodeBlock_of_length_ne hlen s

/-- Settles O6: the returned bytes are the lanes of the two samples, the second sample's first. -/
theorem encodeBlockResult : Obligations.EncodeBlockResult := by
  unfold Obligations.EncodeBlockResult
  exact fun x y s => ⟨rfl, lowerLane y, upperLane y, lowerLane x, upperLane x, rfl, rfl, rfl⟩

/-! ### The groups of a stream (R125, R127) -/

@[simp] theorem groupBytes_cons (x y : U16) (c1 c2 : List U16) :
    groupBytes (x :: c1) (y :: c2) = encodeBlock x y ++ groupBytes c1 c2 := rfl

theorem groupBytes_length : ∀ {c1 c2 : List U16}, c1.length = c2.length →
    (groupBytes c1 c2).length = 4 * c1.length
  | [], [], _ => rfl
  | x :: c1, y :: c2, h => by
    have ih := groupBytes_length (Nat.succ.inj h)
    simp only [groupBytes_cons, encodeBlock, List.length_append, List.length_cons, List.length_nil, ih]
    omega

/-- The `k`-th group of the encoded channels is the encoding of their `k`-th samples. -/
theorem groupBytes_group : ∀ {c1 c2 : List U16} {k : Nat} {x y : U16}, c1[k]? = some x → c2[k]? = some y →
    ((groupBytes c1 c2).drop (4 * k)).take 4 = encodeBlock x y
  | _ :: _, _ :: _, 0, _, _, hx, hy => by
    cases hx
    cases hy
    rfl
  | a :: c1, b :: c2, k + 1, x, y, hx, hy => by
    have hdrop : (groupBytes (a :: c1) (b :: c2)).drop (4 * (k + 1)) = (groupBytes c1 c2).drop (4 * k) := rfl
    rw [hdrop]
    exact groupBytes_group hx hy

theorem groupsOf_groupBytes : ∀ c1 c2 : List U16, groupsOf (groupBytes c1 c2) = c1.zip c2
  | x :: c1, y :: c2 => by
    simp [encodeBlock, groupsOf, groupSamples, groupsOf_groupBytes c1 c2]
  | [], _ => rfl
  | _ :: _, [] => rfl

/-- Decoding the groups of two channels gives the channels back. -/
theorem channelsOf_groupBytes {c1 c2 : List U16} (h : c1.length = c2.length) :
    channelsOf (groupBytes c1 c2) = (c1, c2) := by
  simp only [channelsOf, groupsOf_groupBytes, List.map_fst_zip h.le, List.map_snd_zip h.ge]

/-- The groups of a stream's channels are the stream. -/
theorem groupBytes_channelsOf : ∀ {n : Nat} {b : List Byte}, b.length = 4 * n →
    groupBytes (channelsOf b).1 (channelsOf b).2 = b
  | 0, b, h => by
    obtain rfl : b = [] := List.length_eq_zero_iff.mp h
    rfl
  | n + 1, g0 :: g1 :: g2 :: g3 :: rest, h => by
    have hrest : rest.length = 4 * n := by simp at h; omega
    have ih := groupBytes_channelsOf hrest
    calc groupBytes (channelsOf (g0 :: g1 :: g2 :: g3 :: rest)).1 (channelsOf (g0 :: g1 :: g2 :: g3 :: rest)).2
        = encodeBlock (groupSamples g0 g1 g2 g3).1 (groupSamples g0 g1 g2 g3).2 ++
            groupBytes (channelsOf rest).1 (channelsOf rest).2 := rfl
      _ = g0 :: g1 :: g2 :: g3 :: rest := by rw [encodeBlock_groupSamples, ih]; rfl

/-! ### Streams (R125, R127 to R129) -/

theorem decodeStream_of_aligned {b : List Byte} (h : b.length % 4 = 0) : decodeStream b = some (channelsOf b) :=
  if_pos h

theorem encodeStream_of_length {c1 c2 : List U16} (h : c1.length = c2.length) :
    encodeStream c1 c2 = some (groupBytes c1 c2) := if_pos h

/-- DECODE_STREAM of whole groups (R125). -/
theorem exec_decodeStream {b : List Byte} (h : b.length % 4 = 0) (s : State) :
    exec (.decodeStream b) s = .next (s.answer (.channels (channelsOf b).1 (channelsOf b).2)) := by
  simp [exec, execDecodeStream, decodeStream_of_aligned h]

/-- DECODE_STREAM of any other length (R125, R281). -/
theorem exec_decodeStream_of_misaligned {b : List Byte} (h : b.length % 4 ≠ 0) (s : State) :
    exec (.decodeStream b) s = .fault (.codecShape .decodeStream [b.length]) := by
  have hnone : decodeStream b = none := if_neg h
  simp [exec, execDecodeStream, hnone]

/-- ENCODE_STREAM of channels of one length (R127). -/
theorem exec_encodeStream {c1 c2 : List U16} (h : c1.length = c2.length) (s : State) :
    exec (.encodeStream c1 c2) s = .next (s.answer (.bytes (groupBytes c1 c2))) := by
  simp [exec, execEncodeStream, encodeStream_of_length h]

/-- ENCODE_STREAM of channels of different lengths (R127, R281). -/
theorem exec_encodeStream_of_length_ne {c1 c2 : List U16} (h : c1.length ≠ c2.length) (s : State) :
    exec (.encodeStream c1 c2) s = .fault (.codecShape .encodeStream [c1.length, c2.length]) := by
  have hnone : encodeStream c1 c2 = none := if_neg h
  simp [exec, execEncodeStream, hnone]

/-- The `k`-th samples of a stream of `n` groups are those of its `k`-th group, which is their encoding. -/
theorem channelsOf_group {b : List Byte} {n k : Nat} (h : b.length = 4 * n) (hk : k < n) :
    ∃ b0 b1 b2 b3 : Byte, (b.drop (4 * k)).take 4 = [b0, b1, b2, b3] ∧
      (channelsOf b).1[k]? = some (combine b3 b2) ∧ (channelsOf b).2[k]? = some (combine b1 b0) := by
  obtain ⟨hlen1, hlen2⟩ := channelsOf_length h
  have hx := List.getElem?_eq_getElem (l := (channelsOf b).1) (hlen1 ▸ hk)
  have hy := List.getElem?_eq_getElem (l := (channelsOf b).2) (hlen2 ▸ hk)
  have hgroup := groupBytes_group hx hy
  rw [groupBytes_channelsOf h] at hgroup
  exact ⟨_, _, _, _, hgroup, by rw [combine_lanes, hx], by rw [combine_lanes, hy]⟩

/-- Settles O5: a stream of whole groups decodes group by group, and no other stream decodes. -/
theorem decodeStreamResult : Obligations.DecodeStreamResult := by
  unfold Obligations.DecodeStreamResult
  refine ⟨fun _ => rfl, fun b n s hlen => ?_, fun b s hlen => ?_⟩
  · obtain ⟨hlen1, hlen2⟩ := channelsOf_length hlen
    exact ⟨(channelsOf b).1, (channelsOf b).2, exec_decodeStream (by omega) s, hlen1, hlen2,
      fun k hk => channelsOf_group hlen hk⟩
  · exact exec_decodeStream_of_misaligned hlen s

/-- Settles O7: channels of one length encode sample by sample, and no others encode. -/
theorem encodeStreamResult : Obligations.EncodeStreamResult := by
  unfold Obligations.EncodeStreamResult
  refine ⟨fun _ _ => rfl, fun c1 c2 s hlen => ?_, fun c1 c2 s hlen => ?_⟩
  · exact ⟨groupBytes c1 c2, exec_encodeStream hlen s, groupBytes_length hlen,
      fun k x y hx hy => groupBytes_group hx hy⟩
  · exact exec_encodeStream_of_length_ne hlen s

theorem encodeStream_channelsOf {b : List Byte} (h : b.length % 4 = 0) :
    encodeStream (channelsOf b).1 (channelsOf b).2 = some b := by
  obtain ⟨n, hn⟩ := Nat.dvd_of_mod_eq_zero h
  obtain ⟨hlen1, hlen2⟩ := channelsOf_length hn
  rw [encodeStream_of_length (hlen1.trans hlen2.symm), groupBytes_channelsOf hn]

theorem decodeStream_groupBytes {c1 c2 : List U16} (h : c1.length = c2.length) :
    decodeStream (groupBytes c1 c2) = some (c1, c2) := by
  have hlen := groupBytes_length h
  rw [decodeStream_of_aligned (by omega), channelsOf_groupBytes h]

/-- Settles O8: streams are the groups of their channels, and blocks the lanes of their samples. -/
theorem streamCodecInverse : Obligations.StreamCodecInverse := by
  unfold Obligations.StreamCodecInverse
  refine ⟨fun b hlen => ?_, fun c1 c2 hlen => ?_, fun g hlen => ?_, decodeBlock_encodeBlock⟩
  · exact ⟨_, _, decodeStream_of_aligned hlen, encodeStream_channelsOf hlen⟩
  · exact ⟨_, encodeStream_of_length hlen, decodeStream_groupBytes hlen⟩
  · obtain ⟨g0, g1, g2, g3, rfl⟩ := List.length_eq_four.mp hlen
    exact ⟨_, _, rfl, encodeBlock_groupSamples g0 g1 g2 g3⟩

/-! ### Faults (R120, R281) -/

variable {s : State}

theorem seqStep_ne_fault (p : Phase) (m : String) (f : State → State) (r : Fault) : seqStep p m f s ≠ .fault r := by
  unfold seqStep
  split <;> simp

theorem issuedRequest_ne_fault (req : Request) (m : String) (f : State → State) (r : Fault) :
    issuedRequest req m f s ≠ .fault r := by
  unfold issuedRequest
  split <;> simp

/-- An operation whose operands lie in its domain never faults (R120). -/
theorem exec_ne_fault_of_wellFormed {i : Instr} (h : i.wellFormed = true) (r : Fault) : exec i s ≠ .fault r := by
  cases i with
  | decodeBlock g =>
    have hlen : g.length = 4 := by simpa [Instr.wellFormed, Config.groupLen] using h
    obtain ⟨g0, g1, g2, g3, rfl⟩ := List.length_eq_four.mp hlen
    simp [exec_decodeBlock]
  | decodeStream b =>
    have hlen : b.length % 4 = 0 := by simpa [Instr.wellFormed, Config.groupLen] using h
    simp [exec_decodeStream hlen]
  | encodeStream c1 c2 =>
    have hlen : c1.length = c2.length := by simpa [Instr.wellFormed] using h
    simp [exec_encodeStream hlen]
  | combine | split | encodeBlock => simp [exec, execCombine, execSplit, execEncodeBlock]
  | buildFrame | start | take | runAcquisition =>
    simp only [exec, execBuildFrame, execStart, execTake, execRunAcquisition]
    split <;> simp
  | openBus | openSig | frame | cmdXfer | cmdWait | lenXfer | blkWait | blkXfer | closeSig | closeBus | busOpen
  | sigOpen => exact seqStep_ne_fault _ _ _ r
  | busTransfer | busClose | sigWait | sigClose => exact issuedRequest_ne_fault _ _ _ r

/-- A codec operation whose operands lie outside its domain faults (R281). -/
theorem exec_faults_of_not_wellFormed {i : Instr} (h : i.wellFormed = false) : ∃ r, exec i s = .fault r := by
  cases i with
  | decodeBlock g =>
    have hlen : g.length ≠ 4 := by simpa [Instr.wellFormed, Config.groupLen] using h
    exact ⟨_, exec_decodeBlock_of_length_ne hlen s⟩
  | decodeStream b =>
    have hlen : b.length % 4 ≠ 0 := by simpa [Instr.wellFormed, Config.groupLen] using h
    exact ⟨_, exec_decodeStream_of_misaligned hlen s⟩
  | encodeStream c1 c2 =>
    have hlen : c1.length ≠ c2.length := by simpa [Instr.wellFormed] using h
    exact ⟨_, exec_encodeStream_of_length_ne hlen s⟩
  | _ => cases h

/-- Settles O10: an operation in its domain never faults, and one outside it always does. -/
theorem onlyIllShapedOperandsFault : Obligations.OnlyIllShapedOperandsFault := by
  unfold Obligations.OnlyIllShapedOperandsFault
  intro i s
  constructor
  · rintro ⟨r, hfault⟩
    exact Bool.eq_false_iff.mpr fun hw => exec_ne_fault_of_wellFormed hw r hfault
  · exact exec_faults_of_not_wellFormed

end Sys2Proof.Machine
end

section
/-! BUILD_FRAME's frame, field by field (41_framer.md R163 to R165), and the registers a session latches (R167, R320). -/

namespace Sys2Proof.Machine

variable {s t : State} {c : AcqConfig}

/-! ### The frame's bytes as numbers -/

/-- A lane of a 16-bit value made of a number is a digit of that number, to the base 256 (R65). -/
theorem split_ofNat_toNat (n : Nat) :
    (split (BitVec.ofNat 16 n)).1.toNat = n / 256 % 256 ∧ (split (BitVec.ofNat 16 n)).2.toNat = n % 256 := by
  simp only [split, upperLane_toNat, lowerLane_toNat, BitVec.toNat_ofNat]
  constructor <;> omega

/-- The frame holds the low 8 bits of each byte field, then the low and the high byte of `pri_length`'s low 16 bits
(R163, R164). -/
theorem assembleFrame_toNat (c : AcqConfig) : (assembleFrame c).toList.map BitVec.toNat =
    [c.randomPhaseChip % 256, c.randomOnTime % 256, c.numCpi % 256, c.numPulse % 256, c.numChip % 256,
      c.numCycle % 256, c.priLength % 256, c.priLength / 256 % 256] := by
  obtain ⟨hhigh, hlow⟩ := split_ofNat_toNat c.priLength
  simp [assembleFrame_toList, hhigh, hlow]

/-- Reduction to its width keeps every field of a record in range (R161, R163). -/
theorem assembleFrame_toNat_of_inRange (h : c.inRange = true) : (assembleFrame c).toList.map BitVec.toNat =
    [c.randomPhaseChip, c.randomOnTime, c.numCpi, c.numPulse, c.numChip, c.numCycle, c.priLength % 256,
      c.priLength / 256] := by
  have keeps : ∀ {n : Nat}, n ≤ 255 → n % 256 = n := fun hn => Nat.mod_eq_of_lt (Nat.lt_succ_of_le hn)
  obtain ⟨hphaseChip, honTime, hcpi, hpulse, hchip, hcycle, hpri⟩ := (inRange_iff c).mp h
  have hhigh : c.priLength / 256 ≤ 255 := by omega
  rw [assembleFrame_toNat, keeps hphaseChip, keeps honTime, keeps hcpi, keeps hpulse, keeps hchip, keeps hcycle,
    keeps hhigh]

/-! ### BUILD_FRAME used on its own -/

/-- BUILD_FRAME returns the framer's frame (R160). -/
theorem execBuildFrame_of_ok {f : Frame} (h : buildFrame s.params.frameRangePolicy c = .ok f) :
    exec (.buildFrame c) s = .next (s.answer (.frame f)) := by
  simp [exec, execBuildFrame, h]

/-- Settles O11: the frame is the assembled one, whose bytes are the fields themselves. -/
theorem buildFrameOfRecordInRange : Obligations.BuildFrameOfRecordInRange := by
  unfold Obligations.BuildFrameOfRecordInRange
  intro c s h
  exact ⟨assembleFrame c, execBuildFrame_of_ok (buildFrame_of_inRange h _), assembleFrame_toNat_of_inRange h, rfl, rfl⟩

/-- Settles O13: without a check every record has its assembled frame. -/
theorem buildFrameTruncates : Obligations.BuildFrameTruncates := by
  unfold Obligations.BuildFrameTruncates
  intro c s hpolicy
  have hbuild : buildFrame s.params.frameRangePolicy c = .ok (assembleFrame c) := by rw [hpolicy]; rfl
  exact ⟨assembleFrame c, execBuildFrame_of_ok hbuild, assembleFrame_toNat c⟩

/-! ### What a session latches -/

/-- In a session no step writes `cfg`, and only FRAME's with an accepted record writes `frame` (R167, R185). -/
theorem SessionStep.configuration_latched (h : SessionStep s t) :
    t.cfg = s.cfg ∧ (s.phase ≠ .frame → t.frame = s.frame) := by
  cases h with
  | framed f hphase => exact ⟨rfl, fun hne => absurd hphase hne⟩
  | suspended | faulted | busOpened | sigOpened | frameRefused | commandSent | commandReady | announced | lengthRefused
  | blockReady | blockMisaligned | blockMissized | blockReceived | sigClosed | sigCloseFaulted | sigNotOpen | busClosed
  | busCloseFaulted | busNotOpen => exact ⟨by simp, fun _ => by simp⟩

/-- Settles O52, by the outcomes of a step inside a session. -/
theorem configurationLatched : Obligations.ConfigurationLatched := by
  unfold Obligations.ConfigurationLatched
  exact fun s t hb h => (sessionStep_of_step hb h).configuration_latched

end Sys2Proof.Machine
end

section
/-! What a SEQ step does with the response to its request (42_controller.md R183 to R194, 43_io_primitives.md R240 to
R249). A step with a request deals with the response that `await` finds; which response that is, is said once for each
kind of request, and the steps' outcomes below use it. -/

namespace Sys2Proof.Machine

variable {α : Type} {s t : State} {p : Phase} {m : String} {f : State → State} {req : Request}
  {pick : Bool → EnvEvent → Option α} {event : α → Event} {k : α → State → State} {r : α} {e : EnvEvent}
  {line seen : Bool} {rest : List EnvEvent} {c : TransportCause}

/-! ### The detector when a request is issued -/

/-- Only a wait touches the ready collaborator's detector (log 7). -/
theorem State.issue_readySeen_of_not_wait (h : req.isWait = false) : (s.issue req).readySeen = s.readySeen := by
  unfold State.issue
  split
  · rfl
  · simp [h]

/-- A wait that is not outstanding yet starts the detector anew (R246, R247). -/
theorem State.issue_readySeen_of_wait (h : req.isWait = true) (hpend : s.pending = none) :
    (s.issue req).readySeen = s.seenAtIssue := by
  simp [State.issue, hpend, h]

/-! ### The response that is found -/

/-- The environment's first event answers a request other than a wait, and the line and the detector stay. -/
theorem await_response (hwait : req.isWait = false) (henv : s.env = e :: rest)
    (hpick : pick s.readySeen e = some r) :
    await pick s.readyLine (s.issue req).readySeen s.env = .answered r s.readyLine s.readySeen rest := by
  rw [State.issue_readySeen_of_not_wait hwait, henv]
  exact await_head rest hpick

/-- A rise of the line and then `active` complete a wait, whatever its detector was (R246). -/
theorem await_wait_rise (ps : Params) (seen : Bool) (rest : List EnvEvent) :
    await (pickWait ps) false seen (.line true :: .wait .active :: rest) = .answered .active true true rest := by
  have hseen : seenAfter false seen (.line true) = true := Bool.or_true seen
  rw [await_skip _ rfl, hseen]
  exact await_head rest rfl

/-- `active` completes a wait whose detector is set (R247). -/
theorem await_wait_seen (ps : Params) (line : Bool) (rest : List EnvEvent) :
    await (pickWait ps) line true (.wait .active :: rest) = .answered .active line true rest :=
  await_head rest rfl

/-- A fault that the parameters allow ends a wait (R246, R248, R250). -/
theorem await_wait_fault {ps : Params} (h : waitFaults ps c = true) (line seen : Bool) (rest : List EnvEvent) :
    await (pickWait ps) line seen (.wait (.fault c) :: rest) = .answered (.fault c) line seen rest :=
  await_head rest (by simp [pickWait, allowWait, h])

/-! ### The faults a contract allows -/

theorem openFaults_iff : openFaults c = true ↔ c = .noDevice ∨ c = .ioFault := by
  cases c <;> simp [openFaults]

theorem xferFaults_iff {ps : Params} : xferFaults ps c = true ↔
    c = .ioFault ∨ (c = .xferTimeout ∧ ps.xferTimeout ≠ none) ∨ (c = .cancelled ∧ ps.cancellable = true) := by
  cases c <;> simp [xferFaults, Option.isSome_iff_ne_none]

theorem waitFaults_iff {ps : Params} : waitFaults ps c = true ↔
    c = .ioFault ∨ (c = .waitTimeout ∧ ps.readyTimeout ≠ none) ∨ (c = .cancelled ∧ ps.cancellable = true) := by
  cases c <;> simp [waitFaults, Option.isSome_iff_ne_none]

/-! ### The step that deals with it -/

/-- A request goes on with the response that `await` finds. -/
theorem request_of_await
    (hawait : await pick s.readyLine (s.issue req).readySeen s.env = .answered r line seen rest) :
    s.request req pick event k = k r (s.respond line seen rest (event r)) := by
  simp only [State.request, State.issue_readyLine, State.issue_env, hawait, State.settle_hear_issue]

/-- With no request outstanding before, a response leaves its event in the trace and the environment's rest. -/
theorem State.respond_of_not_pending (hpend : s.pending = none) (line seen : Bool) (rest : List EnvEvent) (ev : Event) :
    s.respond line seen rest ev =
      { s with readyLine := line, readySeen := seen, env := rest, trace := s.trace ++ [ev] } := by
  cases s
  cases hpend
  rfl

/-- The error entry of a session without an error, from a known phase (R277). -/
theorem State.raise_of_none (hp : s.phase = p) (herr : s.err = none) (cause : Cause) (info : ErrInfo) :
    s.raise cause info = { s with err := some ⟨cause, p, s.blkIdx, info⟩, phase := .closeSig } := by
  subst hp
  rw [State.raise, State.recordErr_of_none cause info herr]
  rfl

/-- A SEQ step runs in its phase (R101). -/
theorem seqStep_of_phase (hp : s.phase = p) (m : String) (f : State → State) : seqStep p m f s = .next (f s) :=
  if_pos hp

/-- A SEQ step that issues a request, none being outstanding, goes on with the response (R240). -/
theorem seqStep_answered (hp : s.phase = p) (hpend : s.pending = none)
    (hf : f s = s.request req pick event k)
    (hawait : await pick s.readyLine (s.issue req).readySeen s.env = .answered r line seen rest)
    (hk : k r { s with readyLine := line, readySeen := seen, env := rest, trace := s.trace ++ [event r] } = t) :
    seqStep p m f s = .next t := by
  rw [seqStep_of_phase hp, hf, request_of_await hawait, State.respond_of_not_pending hpend, hk]

/-- A SEQ step raises the fault its request is answered with (R276, R277). -/
theorem seqStep_faulted {site : RequestSite} {ev : Event} (hp : s.phase = p)
    (hpend : s.pending = none) (herr : s.err = none) (hf : f s = s.request req pick event k)
    (hawait : await pick s.readyLine (s.issue req).readySeen s.env = .answered r line seen rest)
    (hev : event r = ev) (hraise : ∀ u, k r u = u.raise (.transport c) (.request site)) :
    seqStep p m f s = .next
      { s with
        phase := .closeSig, err := some ⟨.transport c, p, s.blkIdx, .request site⟩, readyLine := line
        readySeen := seen, env := rest, trace := s.trace ++ [ev] } := by
  refine seqStep_answered hp hpend hf hawait ?_
  rw [hraise, hev, State.raise_of_none (p := p)]
  · exact hp
  · exact herr

/-! ### Transfers and waits, whichever step issues them (R242, R246) -/

variable {h : Handle}

/-- A transfer's step raises a fault that the parameters allow (R242, R276). -/
theorem seqStep_transfer_faulted {out : List Byte} {k : XferResp → State → State} {site : RequestSite}
    (hp : s.phase = p) (hpend : s.pending = none) (herr : s.err = none) (hf : f s = s.callTransfer h out k)
    (hc : xferFaults s.params c = true) (henv : s.env = .xfer (.fault c) :: rest)
    (hraise : ∀ u, k (.fault c) u = u.raise (.transport c) (.request site)) :
    seqStep p m f s = .next
      { s with
        phase := .closeSig, err := some ⟨.transport c, p, s.blkIdx, .request site⟩, env := rest
        trace := s.trace ++ [.xfer out (.fault c)] } := by
  have hpick : pickXfer s.params s.readySeen (.xfer (.fault c)) = some (.fault c) := by simp [pickXfer, allowXfer, hc]
  exact seqStep_faulted hp hpend herr hf (await_response rfl henv hpick) rfl hraise

/-- A transfer's step keeps the bytes it received and raises a decode error (R188, R191, R277). -/
theorem seqStep_transfer_refused {out b : List Byte} {k : XferResp → State → State} {cause : Cause} (hp : s.phase = p)
    (hpend : s.pending = none) (herr : s.err = none) (hf : f s = s.callTransfer h out k)
    (henv : s.env = .xfer (.ok b) :: rest)
    (hraise : ∀ u, u.blockLen = s.blockLen → k (.ok b) u = (u.receive b).raise cause (.length b.length)) :
    seqStep p m f s = .next
      { s with
        phase := .closeSig, rx := some b, err := some ⟨cause, p, s.blkIdx, .length b.length⟩, env := rest
        trace := s.trace ++ [.xfer out (.ok b)] } := by
  refine seqStep_answered hp hpend hf (await_response rfl henv rfl) ?_
  rw [hraise, State.raise_of_none (p := p)]
  · rfl
  · exact hp
  · exact herr
  · rfl

/-- A wait's step goes on when the line rises after the wait was issued (R246). -/
theorem seqStep_wait_rise {k : WaitResp → State → State} {next : Phase} (hp : s.phase = p) (hpend : s.pending = none)
    (hf : f s = s.callWait h k) (hline : s.readyLine = false) (henv : s.env = .line true :: .wait .active :: rest)
    (hnext : ∀ u, k .active u = u.goto next) :
    seqStep p m f s = .next
      { s with
        phase := next, readyLine := true, readySeen := true, env := rest, trace := s.trace ++ [.wait .active] } := by
  refine seqStep_answered hp hpend hf ?_ (hnext _)
  rw [hline, henv]
  exact await_wait_rise s.params _ rest

/-- Under LEVEL a wait's step goes on when the line is high (R247). -/
theorem seqStep_wait_high {k : WaitResp → State → State} {next : Phase} (hp : s.phase = p) (hpend : s.pending = none)
    (hf : f s = s.callWait h k) (hsense : s.params.readySense = .level) (hline : s.readyLine = true)
    (henv : s.env = .wait .active :: rest) (hnext : ∀ u, k .active u = u.goto next) :
    seqStep p m f s = .next
      { s with phase := next, readySeen := true, env := rest, trace := s.trace ++ [.wait .active] } := by
  have hseen : s.seenAtIssue = true := by simp [State.seenAtIssue, hsense, hline]
  refine seqStep_answered hp hpend hf ?_ (hnext _)
  rw [State.issue_readySeen_of_wait rfl hpend, hseen, henv]
  exact await_wait_seen s.params s.readyLine rest

/-- A wait's step raises a fault that the parameters allow (R246, R248, R250, R276). -/
theorem seqStep_wait_faulted {k : WaitResp → State → State} {site : RequestSite} (hp : s.phase = p)
    (hpend : s.pending = none) (herr : s.err = none) (hf : f s = s.callWait h k)
    (hc : waitFaults s.params c = true) (henv : s.env = .wait (.fault c) :: rest)
    (hraise : ∀ u, k (.fault c) u = u.raise (.transport c) (.request site)) :
    seqStep p m f s = .next
      { s with
        phase := .closeSig, err := some ⟨.transport c, p, s.blkIdx, .request site⟩, readySeen := s.seenAtIssue
        env := rest, trace := s.trace ++ [.wait (.fault c)] } := by
  refine seqStep_faulted hp hpend herr hf ?_ rfl hraise
  rw [State.issue_readySeen_of_wait rfl hpend, henv]
  exact await_wait_fault hc s.readyLine _ rest

end Sys2Proof.Machine
end

section
/-! The outcomes of the SEQ steps (42_controller.md R183 to R196): what each step does with each response. -/

namespace Sys2Proof.Machine

variable {s : State} {c : AcqConfig}

/-! ### Opening the collaborators (R183, R184) -/

/-- Settles O19: OPEN_BUS deals with the response to BUS_OPEN, the environment's first event. -/
theorem openBusOutcome : Obligations.OpenBusOutcome := by
  unfold Obligations.OpenBusOutcome
  intro s rest hp hpend
  refine ⟨rfl, fun h henv => ?_, fun c hc herr henv => ?_⟩
  · exact seqStep_answered hp hpend (openBusStep.eq_def s) (await_response rfl henv rfl) rfl
  · have hpick : pickBusOpen s.readySeen (.busOpen (.fault c)) = some (.fault c) := by
      simp [pickBusOpen, allowOpen, openFaults_iff.mpr hc]
    exact seqStep_faulted hp hpend herr (openBusStep.eq_def s) (await_response rfl henv hpick) rfl fun _ => rfl

/-- Settles O20: OPEN_SIG deals with the response to SIG_OPEN, the environment's first event. -/
theorem openSigOutcome : Obligations.OpenSigOutcome := by
  unfold Obligations.OpenSigOutcome
  intro s rest hp hpend
  refine ⟨rfl, fun h henv => ?_, fun c hc herr henv => ?_⟩
  · exact seqStep_answered hp hpend (openSigStep.eq_def s) (await_response rfl henv rfl) rfl
  · have hpick : pickSigOpen s.readySeen (.sigOpen (.fault c)) = some (.fault c) := by
      simp [pickSigOpen, allowOpen, openFaults_iff.mpr hc]
    exact seqStep_faulted hp hpend herr (openSigStep.eq_def s) (await_response rfl henv hpick) rfl fun _ => rfl

/-! ### The frame and the command (R185 to R187) -/

theorem State.config_of_cfg (h : s.cfg = some c) : s.config = c := by simp [State.config, h]

theorem State.frameBytes_of_frame {f : Frame} (h : s.frame = some f) : s.frameBytes = f.toList := by
  simp [State.frameBytes, h]

theorem State.blockLen_of_blkLen {n : Nat} (h : s.blkLen = some n) : s.blockLen = n := by simp [State.blockLen, h]

/-- FRAME writes the frame that the framer builds (R185). -/
theorem frameStep_of_ok {f : Frame} (hconfig : s.config = c) (h : buildFrame s.params.frameRangePolicy c = .ok f) :
    frameStep s = { s with frame := some f, phase := .cmdXfer } := by
  simp [frameStep, hconfig, h]

/-- FRAME raises the framer's error (R185). -/
theorem frameStep_of_error {j v : Nat} (hconfig : s.config = c)
    (h : buildFrame s.params.frameRangePolicy c = .error (j, v)) : frameStep s = s.raise .fbRange (.field j v) := by
  simp [frameStep, hconfig, h]

/-- A record in range has its assembled frame, and under TRUNCATE every record has (R163, R164). -/
theorem buildFrame_of_inRange_or_truncate {policy : RangePolicy} (h : c.inRange = true ∨ policy = .truncate) :
    buildFrame policy c = .ok (assembleFrame c) := by
  obtain h | rfl := h
  · exact buildFrame_of_inRange h policy
  · rfl

/-- Settles O21: FRAME goes on with the assembled frame, or raises the framer's error, which names a field that exceeds
its limit. -/
theorem frameOutcome : Obligations.FrameOutcome := by
  unfold Obligations.FrameOutcome
  intro s c hp hcfg
  have hconfig := State.config_of_cfg hcfg
  have hstep : exec .frame s = .next (frameStep s) := seqStep_of_phase hp _ _
  refine ⟨rfl, fun h => ?_, fun hrange hpolicy herr => ?_⟩
  · have hbuild := buildFrame_of_inRange_or_truncate h
    exact ⟨assembleFrame c, hbuild, assembleFrame_toNat c, by rw [hstep, frameStep_of_ok hconfig hbuild]⟩
  · obtain ⟨j, v, hfirst, hbuild⟩ := buildFrame_of_not_inRange hrange
    obtain ⟨hvalue, ⟨l, hlimit, hexceeds⟩, -⟩ := firstOutOfRange_eq_some hfirst
    rw [← hpolicy] at hbuild
    refine ⟨j, v, l, hbuild, hvalue, hlimit, hexceeds, ?_⟩
    rw [hstep, frameStep_of_error hconfig hbuild, State.raise_of_none hp herr]

/-- Settles O22: CMD_XFER goes on with whatever bytes it receives, or raises an allowed fault. -/
theorem cmdXferOutcome : Obligations.CmdXferOutcome := by
  unfold Obligations.CmdXferOutcome
  intro s f rest hp hpend hframe
  rw [← State.frameBytes_of_frame hframe]
  refine ⟨rfl, fun b henv => ?_, fun c hc herr henv => ?_⟩
  · exact seqStep_answered hp hpend (cmdXferStep.eq_def s) (await_response rfl henv rfl) rfl
  · exact seqStep_transfer_faulted hp hpend herr (cmdXferStep.eq_def s) (xferFaults_iff.mpr hc) henv fun _ => rfl

/-- Settles O23: CMD_WAIT's wait completes on a rise or under LEVEL on a high line, or fails with an allowed fault. -/
theorem cmdWaitOutcome : Obligations.CmdWaitOutcome := by
  unfold Obligations.CmdWaitOutcome
  intro s rest hp hpend
  have hf := cmdWaitStep.eq_def s
  refine ⟨rfl, fun hline henv => ?_, fun hsense hline henv => ?_, fun c hc herr henv => ?_⟩
  · exact seqStep_wait_rise hp hpend hf hline henv fun _ => rfl
  · exact seqStep_wait_high hp hpend hf hsense hline henv fun _ => rfl
  · exact seqStep_wait_faulted hp hpend herr hf (waitFaults_iff.mpr hc) henv fun _ => rfl

/-! ### The length handshake (R188, R189) -/

/-- Settles O24: LEN_XFER goes on with the length that two bytes announce, raises any other number of them, or raises an
allowed fault. -/
theorem lenXferOutcome : Obligations.LenXferOutcome := by
  unfold Obligations.LenXferOutcome
  rintro s c _ rest hp hpend hcfg rfl
  have hf := lenXferStep.eq_def s
  refine ⟨rfl, fun b0 b1 henv => ?_, fun b hlen herr henv => ?_, fun k hk herr henv => ?_⟩
  · refine ⟨combine b1 b0, combine_toNat b1 b0, seqStep_answered hp hpend hf (await_response rfl henv rfl) ?_⟩
    have hphase : (if 0 < s.config.numCpi then Phase.blkWait else .closeSig) =
        if c.numCpi = 0 then .closeSig else .blkWait := by
      simp only [State.config_of_cfg hcfg, Nat.pos_iff_ne_zero, ite_not]
    rw [← hphase]
    rfl
  · exact seqStep_transfer_refused hp hpend herr hf henv fun u _ => lenReceived_of_length_ne hlen u
  · exact seqStep_transfer_faulted hp hpend herr hf (xferFaults_iff.mpr hk) henv fun _ => rfl

/-! ### The block loop (R190 to R192) -/

/-- Settles O25: BLK_WAIT's wait completes on a rise or under LEVEL on a high line, or fails with an allowed fault. -/
theorem blkWaitOutcome : Obligations.BlkWaitOutcome := by
  unfold Obligations.BlkWaitOutcome
  intro s rest hp hpend
  have hf := blkWaitStep.eq_def s
  refine ⟨rfl, fun hline henv => ?_, fun hsense hline henv => ?_, fun c hc herr henv => ?_⟩
  · exact seqStep_wait_rise hp hpend hf hline henv fun _ => rfl
  · exact seqStep_wait_high hp hpend hf hsense hline henv fun _ => rfl
  · exact seqStep_wait_faulted hp hpend herr hf (waitFaults_iff.mpr hc) henv fun _ => rfl

/-- The size checks raise their error before anything is appended (R191, R279). -/
theorem blkReceived_of_refused {b : List Byte} {n : Nat} {cause : Cause} (hn : s.blockLen = n)
    (h : (b.length % 4 ≠ 0 ∧ cause = .deBlkAlign) ∨ (b.length % 4 = 0 ∧ b.length ≠ n ∧ cause = .deBlkSize)) :
    blkReceived b s = (s.receive b).raise cause (.length b.length) := by
  obtain ⟨hgroups, rfl⟩ | ⟨hgroups, hlen, rfl⟩ := h
  · exact blkReceived_of_misaligned hgroups
  · exact blkReceived_of_length_ne hgroups (hn ▸ hlen)

/-- Settles O26: BLK_XFER appends the announced block, raises one of any other length, or raises an allowed fault. -/
theorem blkXferOutcome : Obligations.BlkXferOutcome := by
  unfold Obligations.BlkXferOutcome
  intro s c n rest hp hpend hcfg hblk
  have hn := State.blockLen_of_blkLen hblk
  have hf : blkXferStep s = s.callTransfer s.busH.handle (zeros n) _ := hn ▸ blkXferStep.eq_def s
  refine ⟨rfl, fun b hlen hgroups henv => ?_, fun b cause hbad herr henv => ?_, fun k hk herr henv => ?_⟩
  · refine ⟨_, _, decodeStream_of_aligned (hlen ▸ hgroups),
      seqStep_answered hp hpend hf (await_response rfl henv rfl) ?_⟩
    rw [← State.config_of_cfg hcfg]
    refine blkReceived_of_announced (by rw [hlen]; exact hgroups) ?_
    exact hlen.trans hn.symm
  · exact seqStep_transfer_refused hp hpend herr hf henv fun u hu => blkReceived_of_refused (hu.trans hn) hbad
  · exact seqStep_transfer_faulted hp hpend herr hf (xferFaults_iff.mpr hk) henv fun _ => rfl

/-! ### Releasing the collaborators (R193 to R196, R285) -/

/-- A close fault is the session's error where there is none (R285). -/
theorem State.closeResponse_of_none {p : Phase} (hp : s.phase = p) (herr : s.err = none) (cause : TransportCause)
    (site : RequestSite) : s.closeResponse (.fault cause) site =
      { s with err := some ⟨.transport cause, p, s.blkIdx, .request site⟩ } := by
  subst hp
  exact State.recordErr_of_none _ _ herr

/-- A close fault is a secondary error of a session that has one (R285). -/
theorem State.closeResponse_of_some {p : Phase} {e : ErrRec} (hp : s.phase = p) (herr : s.err = some e)
    (cause : TransportCause) (site : RequestSite) : s.closeResponse (.fault cause) site =
      { s with secErr := s.secErr ++ [⟨.transport cause, p, s.blkIdx, .request site⟩] } := by
  subst hp
  exact State.recordErr_of_some _ _ e herr

theorem HandleState.isOpen_of_ne_opened {x : HandleState} (h : ∀ y, x ≠ .opened y) : x.isOpen = false := by
  cases x with
  | opened y => exact absurd rfl (h y)
  | none | released => rfl

/-- CLOSE_SIG with an open handle issues SIG_CLOSE (R193). -/
theorem closeSigStep_of_open (hopen : s.sigH.isOpen = true) : closeSigStep s = s.callSigClose s.sigH.handle fun r t =>
    ((t.setSig .released).closeResponse r .closeSig).goto .closeBus := if_pos hopen

/-- CLOSE_SIG without one issues no request (R193). -/
theorem closeSigStep_of_not_open (hclosed : s.sigH.isOpen = false) : closeSigStep s = s.goto .closeBus := by
  simp [closeSigStep, hclosed]

/-- CLOSE_BUS with an open handle issues BUS_CLOSE (R194). -/
theorem closeBusStep_of_open (hopen : s.busH.isOpen = true) : closeBusStep s = s.callBusClose s.busH.handle fun r t =>
    ((t.setBus .released).closeResponse r .closeBus).finish := if_pos hopen

/-- CLOSE_BUS without one issues no request (R194). -/
theorem closeBusStep_of_not_open (hclosed : s.busH.isOpen = false) : closeBusStep s = s.finish := by
  simp [closeBusStep, hclosed]

/-- Settles O27: CLOSE_SIG releases an open handle whatever the response, and a fault is recorded. -/
theorem closeSigOutcome : Obligations.CloseSigOutcome := by
  unfold Obligations.CloseSigOutcome
  intro s rest hp hpend
  refine ⟨rfl, fun hclosed => ?_, fun h hopened => ?_⟩
  · exact (seqStep_of_phase hp _ _).trans
      (congrArg _ (closeSigStep_of_not_open (HandleState.isOpen_of_ne_opened hclosed)))
  · have hf := closeSigStep_of_open (s := s) (hopened ▸ rfl)
    refine ⟨fun henv => ?_, fun herr henv => ?_, fun e herr henv => ?_⟩
    all_goals refine seqStep_answered hp hpend hf (await_response rfl henv rfl) ?_
    · rfl
    · exact congrArg (State.goto · .closeBus) (State.closeResponse_of_none (by exact hp) (by exact herr) _ _)
    · exact congrArg (State.goto · .closeBus) (State.closeResponse_of_some (by exact hp) (by exact herr) _ _)

/-- Settles O28: CLOSE_BUS releases an open handle whatever the response, a fault is recorded, and the session ends with
the error there then is. -/
theorem closeBusOutcome : Obligations.CloseBusOutcome := by
  unfold Obligations.CloseBusOutcome
  rintro s rest _ hp hpend rfl
  refine ⟨rfl, fun hclosed => ?_, fun h hopened => ?_⟩
  · have hstep : exec .closeBus s = .next s.finish := (seqStep_of_phase hp _ _).trans
      (congrArg _ (closeBusStep_of_not_open (HandleState.isOpen_of_ne_opened hclosed)))
    exact ⟨fun herr => by rw [hstep, State.finish_of_none herr],
      fun e herr => by rw [hstep, State.finish_of_some e herr]⟩
  · have hf := closeBusStep_of_open (s := s) (hopened ▸ rfl)
    refine ⟨fun herr henv => ?_, fun e herr henv => ?_, fun herr henv => ?_, fun e herr henv => ?_⟩
    all_goals refine seqStep_answered hp hpend hf (await_response rfl henv rfl) ?_
    · exact State.finish_of_none herr
    · exact State.finish_of_some e herr
    · exact (congrArg State.finish (State.closeResponse_of_none (by exact hp) (by exact herr) _ _)).trans
        (State.finish_of_some _ rfl)
    · exact (congrArg State.finish (State.closeResponse_of_some (by exact hp) (by exact herr) _ _)).trans
        (State.finish_of_some e herr)

end Sys2Proof.Machine
end

section
/-! The host's actions (42_controller.md R182, R197, R198) and the operation a step decodes (log 2). -/

namespace Sys2Proof.Machine

variable {s : State} {c : AcqConfig}

/-! ### What each action does in its phases, and its refusal in the others -/

theorem exec_start (hp : s.phase = .idle) : exec (.start c) s = .next (s.startSession c) := if_pos hp

theorem exec_start_of_not_idle (hp : s.phase ≠ .idle) : exec (.start c) s = .refused (.notEnabled "START" s.phase) :=
  if_neg hp

theorem exec_runAcquisition (hp : s.phase = .idle) :
    exec (.runAcquisition c) s = .next { s.startSession c with call := true } := if_pos hp

theorem exec_runAcquisition_of_not_idle (hp : s.phase ≠ .idle) :
    exec (.runAcquisition c) s = .refused (.notEnabled "RUN_ACQUISITION" s.phase) := if_neg hp

theorem exec_take (hp : s.phase = .done ∨ s.phase = .failed) : exec .take s = .next s.takeOutcome := if_pos hp

theorem exec_take_of_not_ended (hp : ¬(s.phase = .done ∨ s.phase = .failed)) :
    exec .take s = .refused (.notEnabled "TAKE" s.phase) := if_neg hp

/-- What START does to the model's own `pending` and `call` is nothing where they are clear (log 20). -/
theorem State.startSession_of_clear (hpend : s.pending = none) (hcall : s.call = false) (c : AcqConfig) :
    s.startSession c =
      { s with
        phase := .openBus, cfg := some c, frame := none, lenWord := none, blkLen := none, blkIdx := 0, rx := none
        ch1 := [], ch2 := [], busH := .none, sigH := .none, err := none, secErr := [], outcome := none
        trace := [] } := by
  simp only [State.startSession, hpend, hcall]

/-- Settles O15: START begins a session in IDLE, where its clearing of `pending` and `call` shows nowhere. -/
theorem startBeginsSession : Obligations.StartBeginsSession := by
  unfold Obligations.StartBeginsSession
  intro c s
  refine ⟨rfl, fun hp hpend hcall => ?_, exec_start_of_not_idle⟩
  rw [exec_start hp, State.startSession_of_clear hpend hcall]

/-- Settles O16: TAKE of the host's, with no call in flight, returns the outcome as it stands. -/
theorem takeReturnsOutcome : Obligations.TakeReturnsOutcome := by
  unfold Obligations.TakeReturnsOutcome
  intro s
  refine ⟨rfl, fun hp hcall => ?_, fun hdone hfailed => exec_take_of_not_ended (by simp [hdone, hfailed])⟩
  simp only [exec_take hp, State.takeOutcome, hcall, returnedBy]

/-- Settles O17: RUN_ACQUISITION begins START's session with the call outstanding. -/
theorem runBeginsSession : Obligations.RunBeginsSession := by
  unfold Obligations.RunBeginsSession
  exact fun c s => ⟨rfl, fun hp => ⟨s.startSession c, exec_start hp, exec_runAcquisition hp⟩,
    exec_runAcquisition_of_not_idle⟩

/-- The step that ends an outstanding call is its TAKE (R108, R198). -/
theorem step_of_call (hcall : s.call = true) (hp : s.phase = .done ∨ s.phase = .failed) :
    step s = .next s.takeOutcome := by
  have hnext : nextOperation s = .run .take s := by
    obtain hp | hp := hp <;> simp [nextOperation, seqOperation, idleOperation, hp, hcall]
  rw [step, hnext]
  exact exec_take hp

/-- Settles O18: the call's TAKE returns what `returnedBy` makes of the outcome. -/
theorem runCallReturns : Obligations.RunCallReturns := by
  unfold Obligations.RunCallReturns
  intro s hcall
  refine ⟨fun a b hp hout => ?_, fun e es hp hout => ?_⟩
  · simp only [step_of_call hcall (.inl hp), State.takeOutcome, hcall, hout, returnedBy]
  · simp only [step_of_call hcall (.inr hp), State.takeOutcome, hcall, hout, returnedBy]

/-- The host's bytes name the operation that runs, and leave the port (log 2). -/
theorem hostOperation_of_decodes {i : Instr} {rest : List Byte} (h : decode s.port = .ok (i, rest)) :
    hostOperation s = .run i { s with port := rest } := by
  cases hport : s.port with
  | nil =>
    rw [hport] at h
    cases h
  | cons b bs =>
    rw [hport] at h
    simp [hostOperation, hport, h]

/-- Settles O31: outside a session, with no call to take, the next operation is the one at the head of the port. -/
theorem stepRunsDecodedOperation : Obligations.StepRunsDecodedOperation := by
  unfold Obligations.StepRunsDecodedOperation
  intro s i rest hrest hcall hdecode
  rw [step, nextOperation_of_resting hrest hcall, hostOperation_of_decodes hdecode]

end Sys2Proof.Machine
end

section
/-! The order of the trace and the transition table (42_controller.md R181, R202, R208). -/

namespace Sys2Proof.Machine

variable {s t : State}

/-! ### How the expected requests go on -/

/-- A new event is the next thing the SEQ asked for. -/
theorem State.asked_of_trace {e : Event} (h : t.trace = s.trace ++ [e]) : t.asked = s.asked ++ [e.asked] := by
  simp [State.asked, h]

/-- Nothing is claimed of the trace of a session with an error. -/
theorem traceFollowsPhase_of_error {e : ErrRec} (h : t.err = some e) : TraceFollowsPhase t := by
  intro hnone
  rw [h] at hnone
  cases hnone

/-- A step that asks for nothing keeps the order where its phase expects no more (R181). -/
theorem TraceFollowsPhase.keep (h : TraceFollowsPhase s) (herr : t.err = s.err) (htrace : t.trace = s.trace)
    (hexpect : expectedAsked t = expectedAsked s) : TraceFollowsPhase t := by
  intro hnone asked hasked
  have hsame : t.asked = s.asked := by simp [State.asked, htrace]
  exact hsame.trans (h (herr ▸ hnone) asked (hexpect ▸ hasked))

/-- A step that asks for one thing keeps the order where its phase expects that as the next (R181). -/
theorem TraceFollowsPhase.ask {e : Event} {asked : List Asked} (h : TraceFollowsPhase s) (herr : t.err = s.err)
    (htrace : t.trace = s.trace ++ [e]) (hs : expectedAsked s = some asked)
    (ht : expectedAsked t = some (asked ++ [e.asked])) : TraceFollowsPhase t := by
  intro hnone asked' hasked'
  obtain rfl : asked ++ [e.asked] = asked' := by simpa [ht] using hasked'
  rw [State.asked_of_trace htrace, h (herr ▸ hnone) asked hs]

/-- The block loop's next phase, BLK_WAIT or CLOSE_SIG, expects the requests of the blocks counted (R202). -/
theorem expectedAsked_of_loop (h : t.phase = .blkWait ∨ t.phase = .closeSig) :
    expectedAsked t = some (openingAsked t ++ blocksAsked t.blockLen t.blkIdx) := by
  obtain h | h := h <;> simp [expectedAsked, h]

theorem blocksAsked_succ (blkLen n : Nat) :
    blocksAsked blkLen (n + 1) = blocksAsked blkLen n ++ [.wait, .xfer (zeros blkLen)] := rfl

/-- A session that can release nothing has an error: without one both handles are open in CLOSE_SIG and the bus handle
in CLOSE_BUS (R282). -/
theorem SessionInv.err_of_not_open (h : SessionInv s)
    (hclosed : s.phase = .closeSig ∧ s.sigH.isOpen = false ∨ s.phase = .closeBus ∧ s.busH.isOpen = false) :
    ∃ e, s.err = some e := by
  refine Option.ne_none_iff_exists'.mp fun herr => ?_
  obtain ⟨hp, hsig⟩ | ⟨hp, hbus⟩ := hclosed
  · obtain ⟨-, hopen⟩ := h.errors.closeSigOpen hp herr
    rw [hsig] at hopen
    cases hopen
  · obtain ⟨hopen, -⟩ := h.errors.closeBusOpen hp herr
    rw [hbus] at hopen
    cases hopen

/-- Every outcome of a step in a session without an error adds the request its phase is named for, if any, and leads to
the phase that expects just that (R181, R202). -/
theorem SessionStep.traceFollowsPhase (hstep : SessionStep s t) (hinv : SessionInv s) (h : TraceFollowsPhase s) :
    TraceFollowsPhase t := by
  cases hstep with
  | suspended => exact h.keep (by simp) (by simp) (by simp [expectedAsked, openingAsked])
  | framed f hphase => exact h.keep rfl rfl (by simp [expectedAsked, hphase])
  | busOpened _ _ _ _ hphase | sigOpened _ _ _ _ hphase | commandSent _ _ _ _ hphase | commandReady _ _ hphase
  | blockReady _ _ hphase | sigClosed _ _ _ hphase =>
    exact h.ask (by simp) rfl (by rw [expectedAsked, hphase]) (by simp [expectedAsked, Event.asked, openingAsked])
  | announced b0 b1 line seen rest hphase =>
    have hidx : s.blkIdx = 0 := hinv.accumulators.beforeLoop (hphase ▸ rfl) (hphase ▸ rfl)
    refine h.ask (by simp) rfl (by rw [expectedAsked, hphase]) ?_
    rw [expectedAsked_of_loop (ite_eq_or_eq _ _ _)]
    simp [openingAsked, blocksAsked, hidx, Event.asked, State.frameBytes]
  | blockReceived b line seen rest hphase =>
    refine h.ask (by simp) rfl (by rw [expectedAsked, hphase]) ?_
    rw [expectedAsked_of_loop (ite_eq_or_eq _ _ _)]
    simp [openingAsked, blocksAsked_succ, Event.asked]
  | busClosed _ _ _ hphase =>
    cases herr : s.err with
    | none =>
      rw [State.finish_of_none (by simpa using herr)]
      refine h.ask (by simp) rfl (by rw [expectedAsked, hphase]) ?_
      simp [expectedAsked, Event.asked, openingAsked, State.frameBytes, State.blockLen]
    | some e => exact traceFollowsPhase_of_error (by simpa using herr)
  | sigNotOpen hphase hclosed =>
    obtain ⟨e, herr⟩ := hinv.err_of_not_open (.inl ⟨hphase, hclosed⟩)
    exact traceFollowsPhase_of_error herr
  | busNotOpen hphase hclosed =>
    obtain ⟨e, herr⟩ := hinv.err_of_not_open (.inr ⟨hphase, hclosed⟩)
    exact traceFollowsPhase_of_error (by simpa using herr)
  | faulted | frameRefused | lengthRefused | blockMisaligned | blockMissized =>
    exact traceFollowsPhase_of_error (State.raise_err _ _ _)
  | sigCloseFaulted => exact traceFollowsPhase_of_error (State.recordErr_err _ _ _)
  | busCloseFaulted =>
    exact traceFollowsPhase_of_error ((State.finish_err _).trans (State.recordErr_err _ _ _))

/-- Outside a session an operation appends nothing, and a session begins with an empty trace (R182). -/
theorem HostStep.traceFollowsPhase (hstep : HostStep s t) (h : TraceFollowsPhase s) : TraceFollowsPhase t := by
  cases hstep with
  | returned r => exact h
  | started c call hphase =>
    intro _ asked hasked
    exact Option.some.inj hasked
  | taken => exact fun _ _ => nofun

/-- Settles O46: every outcome of a step, inside a session and outside one, keeps the order. -/
theorem stepKeepsTraceOrder : Obligations.StepKeepsTraceOrder := by
  unfold Obligations.StepKeepsTraceOrder
  intro s t hinv htrace h
  cases hb : s.isBusy with
  | true => exact (sessionStep_of_step hb h).traceFollowsPhase hinv htrace
  | false =>
    obtain rfl | ⟨port, hstep⟩ := hostStep_of_step hb h
    · exact htrace
    · exact hstep.traceFollowsPhase htrace

/-! ### A successful session (R202) -/

theorem blocksAsked_eq_replicate (blkLen n : Nat) :
    blocksAsked blkLen n = (List.replicate n [.wait, .xfer (zeros blkLen)]).flatten := by
  induction n with
  | zero => rfl
  | succ n ih => rw [blocksAsked_succ, ih, List.replicate_succ', List.flatten_concat]

/-- Each block asks for one wait among two things. -/
theorem blocksAsked_count (blkLen n : Nat) :
    (blocksAsked blkLen n).length = 2 * n ∧ (blocksAsked blkLen n).count .wait = n := by
  induction n with
  | zero => exact ⟨rfl, rfl⟩
  | succ n ih =>
    obtain ⟨hlen, hcount⟩ := ih
    simp [blocksAsked_succ, hlen, hcount]
    omega

/-- In DONE the trace has asked for everything a session of `num_cpi` blocks asks for (R202). -/
theorem TraceFollowsPhase.asked_of_done (h : TraceFollowsPhase s) (hinv : SessionInv s) (hp : s.phase = .done) :
    s.asked = openingAsked s ++ blocksAsked s.blockLen s.config.numCpi ++ [.sigClose, .busClose] := by
  have herr := hinv.errors.doneWithout hp
  rw [← hinv.accumulators.complete (.inr (.inr hp)) herr]
  exact h herr _ (by simp [expectedAsked, hp])

/-- Settles O47: the ended session meets both invariants, which say what its trace and its outcome are. -/
theorem successfulSessionTrace : Obligations.SuccessfulSessionTrace := by
  unfold Obligations.SuccessfulSessionTrace
  intro s t hinv htrace _ hstep hdone
  have hinv' := stepKeepsSessionInvariant s t hinv hstep
  have hasked := (stepKeepsTraceOrder s t hinv htrace hstep).asked_of_done hinv' hdone
  have hblocks := hinv'.accumulators.complete (.inr (.inr hdone)) (hinv'.errors.doneWithout hdone)
  obtain ⟨hlen, hcount⟩ := blocksAsked_count t.blockLen t.config.numCpi
  refine ⟨?_, ?_, ?_, hinv'.outcome.done hdone, ?_, ?_⟩
  · rw [hasked, blocksAsked_eq_replicate]
    rfl
  · rw [← List.length_map (as := t.trace) Event.asked]
    change t.asked.length = _
    simp [hasked, openingAsked, hlen]
    omega
  · simp [hasked, openingAsked, hcount, Nat.add_comm]
  · exact hinv'.accumulators.ch1Count.trans hblocks
  · exact hinv'.accumulators.ch2Count.trans hblocks

/-! ### The transition table -/

/-- A session ends in DONE without an error and in FAILED with one (R194 to R196). -/
theorem State.finish_phase_eq (s : State) : s.finish.phase = if s.finish.err = none then .done else .failed := by
  obtain ⟨herr, h⟩ | ⟨e, herr, h⟩ := finish_cases s <;> simp [h, herr]

/-- The transitions the table of R181 lists, loop tests and raises included, for a step from one state to another. -/
def Transition (s t : State) : Prop :=
  (t.phase = s.phase ∧ (s.isBusy = true → t.pending ≠ none)) ∨
  (s.phase, t.phase) ∈ [(Phase.idle, Phase.openBus), (.openBus, .openSig), (.openSig, .frame), (.frame, .cmdXfer),
    (.cmdXfer, .cmdWait), (.cmdWait, .lenXfer), (.blkWait, .blkXfer), (.closeSig, .closeBus), (.done, .idle),
    (.failed, .idle)] ∨
  (s.phase = .lenXfer ∧ t.phase = (if 0 < t.config.numCpi then .blkWait else .closeSig)) ∨
  (s.phase = .blkXfer ∧ t.phase = (if t.blkIdx < t.config.numCpi then .blkWait else .closeSig)) ∨
  (s.phase.raises = true ∧ t.phase = .closeSig ∧ t.err ≠ none) ∨
  (s.phase = .closeBus ∧ t.phase = (if t.err = none then .done else .failed))

theorem transition_of_raise (hp : s.phase.raises = true) (cause : Cause) (info : ErrInfo) :
    Transition s (t.raise cause info) :=
  .inr (.inr (.inr (.inr (.inl ⟨hp, rfl, by simp⟩))))

theorem transition_of_finish (hp : s.phase = .closeBus) : Transition s t.finish :=
  .inr (.inr (.inr (.inr (.inr ⟨hp, State.finish_phase_eq t⟩))))

/-- Every outcome of a step in a session is a transition of the table. -/
theorem SessionStep.transition (hstep : SessionStep s t) : Transition s t := by
  cases hstep with
  | suspended => exact .inl ⟨by simp, by simp⟩
  | busOpened _ _ _ _ hphase | sigOpened _ _ _ _ hphase | framed _ hphase | commandSent _ _ _ _ hphase
  | commandReady _ _ hphase | blockReady _ _ hphase | sigClosed _ _ _ hphase | sigCloseFaulted _ _ _ _ hphase
  | sigNotOpen hphase => exact .inr (.inl (by simp [hphase]))
  | announced _ _ _ _ _ hphase => exact .inr (.inr (.inl ⟨hphase, if_congr (by simp [State.config]) rfl rfl⟩))
  | blockReceived _ _ _ _ hphase => exact .inr (.inr (.inr (.inl ⟨hphase, if_congr (by simp) rfl rfl⟩)))
  | faulted _ _ _ _ _ _ hfault => exact transition_of_raise (faultEvent_raises hfault) _ _
  | frameRefused _ _ hphase | lengthRefused _ _ _ _ hphase | blockMisaligned _ _ _ _ hphase
  | blockMissized _ _ _ _ hphase => exact transition_of_raise (hphase ▸ rfl) _ _
  | busClosed _ _ _ hphase | busCloseFaulted _ _ _ _ hphase | busNotOpen hphase => exact transition_of_finish hphase

/-- Outside a session an operation stays, begins a session or ends one (R181). -/
theorem HostStep.transition (hstep : HostStep s t) (hb : s.isBusy = false) : Transition s t := by
  cases hstep with
  | returned r => exact .inl ⟨rfl, by simp [hb]⟩
  | started c call hphase => exact .inr (.inl (by simp [hphase]))
  | taken hphase => obtain hphase | hphase := hphase <;> exact .inr (.inl (by simp [hphase]))

/-- Settles O56, by the outcomes of a step inside a session and outside one. -/
theorem phaseTransitions : Obligations.PhaseTransitions := by
  unfold Obligations.PhaseTransitions
  intro s t h
  change Transition s t
  cases hb : s.isBusy with
  | true => exact (sessionStep_of_step hb h).transition
  | false =>
    obtain rfl | ⟨port, hstep⟩ := hostStep_of_step hb h
    · exact .inl ⟨rfl, by simp [hb]⟩
    · exact hstep.transition hb

end Sys2Proof.Machine
end

section
/-! A whole session, from the host's call to its return (42_controller.md R198 to R200). The scripted environment lets
every request succeed; the run is cut into the opening, one round of the loop for each block, and the closing. -/

namespace Sys2Proof.Machine

variable {s t u : State} {m n : Nat}

/-! ### Runs of the machine -/

/-- The machine comes from one state to another in `n` steps. -/
inductive Runs : Nat → State → State → Prop
  | refl (s : State) : Runs 0 s s
  | head {n : Nat} {s t u : State} (hstep : step s = .next t) (hrun : Runs n t u) : Runs (n + 1) s u

theorem Runs.trans (h : Runs m s t) (hrun : Runs n t u) : Runs (m + n) s u := by
  induction h with
  | refl s => rwa [Nat.zero_add]
  | head hstep _ ih =>
    rw [Nat.add_right_comm]
    exact .head hstep (ih hrun)

theorem core_run_succ {M : Host.Core} {x y : M.State} (h : M.step x = .next y) : M.run (n + 1) x = M.run n y := by
  simp [Host.Core.run, h]

/-- A run is one of the machine the host runs. -/
theorem Runs.core_run (h : Runs n s t) : Host.Core.run Sys2Proof.core n s = .next t := by
  induction h with
  | refl s => rfl
  | head hstep _ ih => exact (core_run_succ (M := Sys2Proof.core) hstep).trans ih

/-! ### The steps of the script -/

/-- The step of a phase whose request is answered goes on with the response (R101, R240). -/
theorem step_of_await {α : Type} {p : Phase} {i : Instr} {mnemonic : String} {f : State → State} {req : Request}
    {pick : Bool → EnvEvent → Option α} {event : α → Event} {k : α → State → State} {r : α} {line seen : Bool}
    {rest : List EnvEvent} (hp : s.phase = p) (hselect : seqOperation p = some i)
    (hexec : exec i s = seqStep p mnemonic f s) (hf : f s = s.request req pick event k)
    (hawait : await pick s.readyLine (s.issue req).readySeen s.env = .answered r line seen rest) :
    step s = .next (k r (s.respond line seen rest (event r))) := by
  rw [step_of_phase hp hselect hexec, hf, request_of_await hawait]

variable {rest : List EnvEvent} {h : Handle} {b : List Byte} {c : AcqConfig}

theorem step_openBus_ok (hp : s.phase = .openBus) (henv : s.env = .busOpen (.ok h) :: rest) :
    step s = .next (((s.respond s.readyLine s.readySeen rest
      (.busOpen s.params.busId s.params.deviceId s.params.clockHz .ok)).setBus (.opened h)).goto .openSig) :=
  step_of_await hp rfl rfl (openBusStep.eq_def s) (await_response rfl henv rfl)

theorem step_openSig_ok (hp : s.phase = .openSig) (henv : s.env = .sigOpen (.ok h) :: rest) :
    step s = .next (((s.respond s.readyLine s.readySeen rest (.sigOpen s.params.pinId .ok)).setSig (.opened h)).goto
      .frame) :=
  step_of_await hp rfl rfl (openSigStep.eq_def s) (await_response rfl henv rfl)

theorem step_frame_inRange (hp : s.phase = .frame) (hconfig : s.config = c) (hrange : c.inRange = true) :
    step s = .next { s with frame := some (assembleFrame c), phase := .cmdXfer } :=
  (step_of_phase hp rfl rfl).trans (congrArg _ (frameStep_of_ok hconfig (buildFrame_of_inRange hrange _)))

theorem step_cmdXfer_ok (hp : s.phase = .cmdXfer) (henv : s.env = .xfer (.ok b) :: rest) :
    step s = .next ((s.respond s.readyLine s.readySeen rest (.xfer s.frameBytes (.ok b))).goto .cmdWait) :=
  step_of_await hp rfl rfl (cmdXferStep.eq_def s) (await_response rfl henv rfl)

/-- A wait is answered at the top of a pulse (R246). -/
theorem await_pulse {req : Request} (hline : s.readyLine = false) (henv : s.env = pulse ++ rest) :
    await (pickWait s.params) s.readyLine (s.issue req).readySeen s.env =
      .answered .active true true (.line false :: rest) := by
  rw [hline, henv]
  exact await_wait_rise s.params _ _

/-- The state after a wait that was answered at the top of a pulse. -/
abbrev State.pulsed (s : State) (rest : List EnvEvent) (p : Phase) : State :=
  (s.respond true true (.line false :: rest) (.wait .active)).goto p

/-- A transfer is answered after the end of the pulse before it, which is passed over. -/
theorem await_after_pulse {req : Request} (hwait : req.isWait = false) (hline : s.readyLine = true)
    (henv : s.env = .line false :: .xfer (.ok b) :: rest) :
    await (pickXfer s.params) s.readyLine (s.issue req).readySeen s.env =
      .answered (.ok b) false s.readySeen rest := by
  have hseen : seenAfter true s.readySeen (.line false) = s.readySeen := Bool.or_false _
  rw [State.issue_readySeen_of_not_wait hwait, hline, henv, await_skip _ rfl, hseen]
  exact await_head rest rfl

theorem step_cmdWait_pulse (hp : s.phase = .cmdWait) (hline : s.readyLine = false) (henv : s.env = pulse ++ rest) :
    step s = .next (s.pulsed rest .lenXfer) :=
  step_of_await hp rfl rfl (cmdWaitStep.eq_def s) (await_pulse hline henv)

theorem step_blkWait_pulse (hp : s.phase = .blkWait) (hline : s.readyLine = false) (henv : s.env = pulse ++ rest) :
    step s = .next (s.pulsed rest .blkXfer) :=
  step_of_await hp rfl rfl (blkWaitStep.eq_def s) (await_pulse hline henv)

theorem step_lenXfer_after_pulse {b0 b1 : Byte} (hp : s.phase = .lenXfer) (hline : s.readyLine = true)
    (henv : s.env = .line false :: .xfer (.ok [b0, b1]) :: rest) :
    step s = .next
      { s.respond false s.readySeen rest (.xfer (handshakeBytes s.params) (.ok [b0, b1])) with
        rx := some [b0, b1], lenWord := some (combine b1 b0), blkLen := some (blockBytes (combine b1 b0))
        phase := if 0 < s.config.numCpi then .blkWait else .closeSig } :=
  step_of_await hp rfl rfl (lenXferStep.eq_def s) (await_after_pulse rfl hline henv)

theorem step_blkXfer_after_pulse (hp : s.phase = .blkXfer) (hline : s.readyLine = true)
    (henv : s.env = .line false :: .xfer (.ok b) :: rest) (hgroups : b.length % 4 = 0) (hlen : b.length = s.blockLen) :
    step s = .next
      ((((s.respond false s.readySeen rest (.xfer (zeros s.blockLen) (.ok b))).receive b).appendBlock
        (channelsOf b)).goto (if s.blkIdx + 1 < s.config.numCpi then .blkWait else .closeSig)) := by
  refine (step_of_await hp rfl rfl (blkXferStep.eq_def s) (await_after_pulse rfl hline henv)).trans (congrArg _ ?_)
  exact blkReceived_of_announced hgroups hlen

theorem step_closeSig_ok (hp : s.phase = .closeSig) (hopen : s.sigH.isOpen = true)
    (henv : s.env = .sigClose .ok :: rest) :
    step s = .next (((s.respond s.readyLine s.readySeen rest (.sigClose .ok)).setSig .released).goto .closeBus) :=
  step_of_await hp rfl rfl (closeSigStep_of_open hopen) (await_response rfl henv rfl)

theorem step_closeBus_ok (hp : s.phase = .closeBus) (hopen : s.busH.isOpen = true)
    (henv : s.env = .busClose .ok :: rest) :
    step s = .next ((s.respond s.readyLine s.readySeen rest (.busClose .ok)).setBus .released).finish :=
  step_of_await hp rfl rfl (closeBusStep_of_open hopen) (await_response rfl henv rfl)

/-- The step after a session's end without an error returns the channels to the call (R108, R198). -/
theorem call_returns_after_finish (hcall : s.call = true) (herr : s.err = none) : ∃ t, step s.finish = .next t ∧
    t.phase = .idle ∧ t.result = some (.acquired s.ch1 s.ch2) ∧ t.trace = s.trace ∧ t.busH = s.busH ∧
    t.sigH = s.sigH := by
  rw [State.finish_of_none herr]
  refine ⟨_, step_of_call hcall (.inl rfl), rfl, ?_, rfl, rfl, rfl⟩
  simp [returnedBy, hcall]

/-! ### The block loop -/

/-- What the script sends when all blocks are read. -/
def closingScript : List EnvEvent := [.sigClose .ok, .busClose .ok]

/-- A session without an error is at the loop's test, with these blocks of `len` groups still to come (R189, R192). -/
structure AwaitsBlocks (s : State) (len : Nat) (blocks : List (List Byte)) : Prop where
  phase : s.phase = loopPhase s
  count : s.config.numCpi = s.blkIdx + blocks.length
  blockLen : s.blockLen = 4 * len
  lengths : ∀ b ∈ blocks, b.length = 4 * len
  env : s.env = blockScript blocks ++ closingScript
  line : s.readyLine = false
  call : s.call = true
  err : s.err = none
  busOpen : s.busH.isOpen = true
  sigOpen : s.sigH.isOpen = true

variable {len : Nat} {blocks : List (List Byte)}

theorem AwaitsBlocks.phase_of_cons (hs : AwaitsBlocks s len (b :: blocks)) : s.phase = .blkWait := by
  rw [hs.phase]
  exact if_pos (by simp [hs.count])

theorem AwaitsBlocks.phase_of_nil (hs : AwaitsBlocks s len []) : s.phase = .closeSig := by
  rw [hs.phase]
  exact if_neg (by simp [hs.count])

/-- One round of the loop reads one block (R190 to R192). -/
theorem AwaitsBlocks.round (hs : AwaitsBlocks s len (b :: blocks)) : ∃ t, Runs 2 s t ∧ AwaitsBlocks t len blocks ∧
    t.ch1 = s.ch1 ++ [(channelsOf b).1] ∧ t.ch2 = s.ch2 ++ [(channelsOf b).2] ∧
    t.trace.length = s.trace.length + 2 := by
  have hlen : b.length = 4 * len := hs.lengths b (by simp)
  have henv : s.env = pulse ++ .xfer (.ok b) :: (blockScript blocks ++ closingScript) := by simp [hs.env, blockScript]
  have hwait := step_blkWait_pulse hs.phase_of_cons hs.line henv
  have hgroups : b.length % 4 = 0 := by omega
  have hblock : b.length = s.blockLen := hlen.trans hs.blockLen.symm
  refine ⟨_, .head hwait (.head (step_blkXfer_after_pulse rfl rfl rfl hgroups hblock) (.refl _)), ?_, rfl, rfl, by simp⟩
  exact {
    phase := rfl
    count := by simp [hs.count]; omega
    blockLen := hs.blockLen
    lengths := fun b' hb' => hs.lengths b' (by simp [hb'])
    env := rfl
    line := rfl
    call := hs.call
    err := hs.err
    busOpen := hs.busOpen
    sigOpen := hs.sigOpen }

/-- The loop reads every block (R190 to R192). -/
theorem AwaitsBlocks.loop (hs : AwaitsBlocks s len blocks) : ∃ t, Runs (2 * blocks.length) s t ∧ AwaitsBlocks t len [] ∧
    t.ch1 = s.ch1 ++ (blocks.map channelsOf).map Prod.fst ∧ t.ch2 = s.ch2 ++ (blocks.map channelsOf).map Prod.snd ∧
    t.trace.length = s.trace.length + 2 * blocks.length := by
  induction blocks generalizing s with
  | nil => exact ⟨s, .refl s, hs, by simp⟩
  | cons b blocks ih =>
    obtain ⟨u, hround, hu, hch1, hch2, htrace⟩ := hs.round
    obtain ⟨t, hloop, ht, hch1', hch2', htrace'⟩ := ih hu
    refine ⟨t, ?_, ht, by simp [hch1', hch1], by simp [hch2', hch2], by simp [htrace', htrace]; omega⟩
    rw [List.length_cons, Nat.mul_succ, Nat.add_comm]
    exact hround.trans hloop

/-- With all blocks read the session releases both collaborators and ends (R193 to R195). -/
theorem AwaitsBlocks.release (hs : AwaitsBlocks s len []) : ∃ u : State, Runs 2 s u.finish ∧ u.call = true ∧
    u.err = none ∧ u.ch1 = s.ch1 ∧ u.ch2 = s.ch2 ∧ u.trace.length = s.trace.length + 2 ∧ u.busH = .released ∧
    u.sigH = .released := by
  have hsig := step_closeSig_ok hs.phase_of_nil hs.sigOpen hs.env
  refine ⟨_, .head hsig (.head (step_closeBus_ok rfl hs.busOpen rfl) (.refl _)), ?_⟩
  simp [hs.call, hs.err]

/-- The ended session's call returns the channels (R198). -/
theorem AwaitsBlocks.closing (hs : AwaitsBlocks s len []) : ∃ t, Runs 3 s t ∧ t.phase = .idle ∧
    t.result = some (.acquired s.ch1 s.ch2) ∧ t.trace.length = s.trace.length + 2 ∧ t.busH = .released ∧
    t.sigH = .released := by
  obtain ⟨u, hrun, hcall, herr, hch1, hch2, hlen, hbus, hsig⟩ := hs.release
  obtain ⟨t, htake, hidle, hresult, htrace, hbus', hsig'⟩ := call_returns_after_finish hcall herr
  exact ⟨t, hrun.trans (.head htake (.refl t)), hidle, by rw [hresult, hch1, hch2], by rw [htrace, hlen],
    hbus'.trans hbus, hsig'.trans hsig⟩

/-! ### The opening -/

/-- The host's call is decoded from the port and begins a session (R198, log 2). -/
theorem step_call (hp : s.phase = .idle) (hport : s.port = encode (.runAcquisition c)) :
    step s = .next { ({ s with port := [] } : State).startSession c with call := true } := by
  have hdecode := decode_of_encode_eq hport.symm
  rw [stepRunsDecodedOperation s _ [] (.inl hp) (.inr hp) hdecode]
  exact exec_runAcquisition hp

/-- The session comes to the loop in seven steps (R182 to R189). -/
theorem opening_runs {g : Handle} {x : List Byte} {len : U16} (hp : s.phase = .idle) (hline : s.readyLine = false)
    (hport : s.port = encode (.runAcquisition c)) (hrange : c.inRange = true) (hcpi : c.numCpi = blocks.length)
    (hlengths : ∀ b ∈ blocks, b.length = 4 * len.toNat) (henv : s.env = sessionScript h g x len blocks) :
    ∃ t, Runs 7 s t ∧ AwaitsBlocks t len.toNat blocks ∧ t.ch1 = [] ∧ t.ch2 = [] ∧ t.trace.length = 5 := by
  have hscript : s.env = .busOpen (.ok h) :: .sigOpen (.ok g) :: .xfer (.ok x) :: (pulse ++
      .xfer (.ok [lowerLane len, upperLane len]) :: (blockScript blocks ++ closingScript)) := by
    simp [henv, sessionScript, closingScript]
  have hcall := step_call hp hport
  refine ⟨_, .head hcall <| .head (step_openBus_ok rfl hscript) <| .head (step_openSig_ok rfl rfl) <|
    .head (step_frame_inRange rfl rfl hrange) <| .head (step_cmdXfer_ok rfl rfl) <|
    .head (step_cmdWait_pulse rfl hline rfl) <| .head (step_lenXfer_after_pulse rfl rfl rfl) (.refl _),
    ?_, rfl, rfl, rfl⟩
  exact {
    phase := rfl
    count := by simp [State.config, hcpi]
    blockLen := by simp [State.blockLen, blockBytes, Config.lenScale]
    lengths := hlengths
    env := rfl
    line := rfl
    call := rfl
    err := rfl
    busOpen := rfl
    sigOpen := rfl }

/-! ### The whole run -/

/-- Blocks of whole groups decode, each to its two channels (R125). -/
theorem map_decodeStream {n : Nat} (hlengths : ∀ b ∈ blocks, b.length = 4 * n) :
    blocks.map decodeStream = (blocks.map channelsOf).map some := by
  rw [List.map_map]
  refine List.map_congr_left fun b hb => decodeStream_of_aligned ?_
  have hlen := hlengths b hb
  omega

/-- Settles O60: the run is the opening, the loop over the blocks and the closing. -/
theorem runReturnsDecodedBlocks : Obligations.RunReturnsDecodedBlocks := by
  unfold Obligations.RunReturnsDecodedBlocks
  intro s c h g x len blocks hp _ hline hport hrange hcpi hlengths henv
  obtain ⟨u, hopening, hu, huch1, huch2, hutrace⟩ := opening_runs hp hline hport hrange hcpi hlengths henv
  obtain ⟨v, hloop, hv, hvch1, hvch2, hvtrace⟩ := hu.loop
  obtain ⟨t, hclosing, hidle, hresult, htrace, hbus, hsig⟩ := hv.closing
  have hrun : Runs (10 + 2 * blocks.length) s t := by
    have hsum : 10 + 2 * blocks.length = 7 + 2 * blocks.length + 3 := by omega
    exact hsum ▸ (hopening.trans hloop).trans hclosing
  refine ⟨blocks.map channelsOf, t, map_decodeStream hlengths, hrun.core_run, hidle, ?_, ?_, hbus, hsig⟩
  · rw [hresult, hvch1, hvch2, huch1, huch2, List.nil_append, List.nil_append]
  · omega

end Sys2Proof.Machine
end

section
/-! Every step keeps the trace free of responses that the parameters do not allow (43_io_primitives.md R241 to R250). -/

namespace Sys2Proof.Machine

variable {s t : State}

/-- A step that appends nothing and keeps the parameters keeps the trace allowed. -/
theorem ResponsesAllowed.keep (h : ResponsesAllowed s) (htrace : t.trace = s.trace) (hparams : t.params = s.params) :
    ResponsesAllowed t := by
  intro e he
  rw [hparams]
  exact h e (htrace ▸ he)

/-- A step that appends an allowed event and keeps the parameters keeps the trace allowed. -/
theorem ResponsesAllowed.append {ev : Event} (h : ResponsesAllowed s) (hev : ev.allowed s.params)
    (htrace : t.trace = s.trace ++ [ev]) (hparams : t.params = s.params) : ResponsesAllowed t := by
  intro e he
  rw [hparams]
  rw [htrace, List.mem_append, List.mem_singleton] at he
  obtain he | rfl := he
  · exact h e he
  · exact hev

/-- An allowed close fault is an allowed response of either close (R244, R249). -/
theorem allowed_of_closeFaults {p : Params} {c : TransportCause} (h : closeFaults c = true) :
    (Event.sigClose (.fault c)).allowed p ∧ (Event.busClose (.fault c)).allowed p :=
  ⟨fun _ hc => Ack.fault.inj hc ▸ h, fun _ hc => Ack.fault.inj hc ▸ h⟩

/-- Every outcome of a step in a session appends no event, one without a fault, or one whose fault is allowed. -/
theorem SessionStep.responsesAllowed (hstep : SessionStep s t) (h : ResponsesAllowed s) : ResponsesAllowed t := by
  cases hstep with
  | suspended | framed | frameRefused | sigNotOpen | busNotOpen => exact h.keep (by simp) (by simp)
  | faulted _ _ _ _ _ _ _ hallowed => exact h.append hallowed (by simp) (by simp)
  | sigCloseFaulted _ _ _ _ _ _ hallowed => exact h.append (allowed_of_closeFaults hallowed).1 (by simp) (by simp)
  | busCloseFaulted _ _ _ _ _ _ hallowed => exact h.append (allowed_of_closeFaults hallowed).2 (by simp) (by simp)
  | busOpened | sigOpened | commandSent | commandReady | announced | blockReady | blockReceived | sigClosed =>
    refine h.append ?_ rfl (by simp)
    exact fun _ => nofun
  | lengthRefused | blockMisaligned | blockMissized =>
    refine h.append ?_ (State.raise_trace _ _ _) (by simp)
    exact fun _ => nofun
  | busClosed =>
    refine h.append ?_ (State.finish_trace _) (by simp)
    exact fun _ => nofun

/-- Outside a session an operation keeps the trace or clears it (R182). -/
theorem HostStep.responsesAllowed (hstep : HostStep s t) (h : ResponsesAllowed s) : ResponsesAllowed t := by
  cases hstep with
  | returned | taken => exact h.keep rfl rfl
  | started => exact fun _ => nofun

/-- Settles O50, by the outcomes of a step inside a session and outside one. -/
theorem stepKeepsResponsesAllowed : Obligations.StepKeepsResponsesAllowed := by
  unfold Obligations.StepKeepsResponsesAllowed
  intro s t hs h
  cases hb : s.isBusy with
  | true => exact (sessionStep_of_step hb h).responsesAllowed hs
  | false =>
    obtain rfl | ⟨port, hstep⟩ := hostStep_of_step hb h
    · exact hs
    · exact hstep.responsesAllowed hs

end Sys2Proof.Machine
end

section
/-! Which request a phase issues, and the request as an operation (43_io_primitives.md R241 to R249, log 11). -/

namespace Sys2Proof.Machine

variable {s : State} {h : Handle} {req : Request} {m : String} {f : State → State}

/-- Only CLOSE_BUS issues BUS_CLOSE, on the handle `bus_h` holds open (R244). -/
theorem requestOfPhase_eq_busClose :
    requestOfPhase s = some (.busClose h) ↔ s.phase = .closeBus ∧ s.busH = .opened h := by
  cases hp : s.phase with
  | closeBus => cases hbus : s.busH <;> simp [requestOfPhase, hp, hbus, HandleState.isOpen, HandleState.handle]
  | idle | openBus | openSig | frame | cmdXfer | cmdWait | lenXfer | blkWait | blkXfer | closeSig | done | failed =>
    simp [requestOfPhase, hp]

/-- Only CLOSE_SIG issues SIG_CLOSE, on the handle `sig_h` holds open (R249). -/
theorem requestOfPhase_eq_sigClose :
    requestOfPhase s = some (.sigClose h) ↔ s.phase = .closeSig ∧ s.sigH = .opened h := by
  cases hp : s.phase with
  | closeSig => cases hsig : s.sigH <;> simp [requestOfPhase, hp, hsig, HandleState.isOpen, HandleState.handle]
  | idle | openBus | openSig | frame | cmdXfer | cmdWait | lenXfer | blkWait | blkXfer | closeBus | done | failed =>
    simp [requestOfPhase, hp]

/-- Only CMD_WAIT and BLK_WAIT issue SIG_WAIT, on the signal handle (R246). -/
theorem requestOfPhase_eq_sigWait :
    requestOfPhase s = some (.sigWait h) ↔ (s.phase = .cmdWait ∨ s.phase = .blkWait) ∧ s.sigH.handle = h := by
  cases hp : s.phase with
  | cmdWait | blkWait => simp [requestOfPhase, hp]
  | idle | openBus | openSig | frame | cmdXfer | lenXfer | blkXfer | closeSig | closeBus | done | failed =>
    simp [requestOfPhase, hp]

/-- Only CMD_XFER, LEN_XFER and BLK_XFER issue BUS_TRANSFER, on the bus handle, each with its own bytes (R242). -/
theorem requestOfPhase_eq_busTransfer {out : List Byte} :
    requestOfPhase s = some (.busTransfer h out) ↔ s.busH.handle = h ∧
      (s.phase = .cmdXfer ∧ s.frameBytes = out ∨ s.phase = .lenXfer ∧ handshakeBytes s.params = out ∨
        s.phase = .blkXfer ∧ zeros s.blockLen = out) := by
  cases hp : s.phase with
  | cmdXfer | lenXfer | blkXfer => simp [requestOfPhase, hp]
  | idle | openBus | openSig | frame | cmdWait | blkWait | closeSig | closeBus | done | failed =>
    simp [requestOfPhase, hp]

/-- A request as an operation runs as a SEQ step of the phase that issues it (log 11). -/
theorem issuedRequest_eq_seqStep (hreq : requestOfPhase s = some req) :
    issuedRequest req m f s = seqStep s.phase m f s :=
  (if_pos hreq).trans (seqStep_of_phase rfl m f).symm

/-- A request that the phase does not issue is refused (R253, log 11). -/
theorem issuedRequest_of_ne (hreq : requestOfPhase s ≠ some req) :
    issuedRequest req m f s = .refused (.notEnabled m s.phase) := if_neg hreq

end Sys2Proof.Machine
end

section
/-! The opens as operations (43_io_primitives.md R241, R245, R253). -/

namespace Sys2Proof.Machine

variable {s : State}

theorem exec_busOpen_eq_openBus (hp : s.phase = .openBus) : exec .busOpen s = exec .openBus s :=
  (seqStep_of_phase hp _ _).trans (seqStep_of_phase hp _ _).symm

theorem exec_sigOpen_eq_openSig (hp : s.phase = .openSig) : exec .sigOpen s = exec .openSig s :=
  (seqStep_of_phase hp _ _).trans (seqStep_of_phase hp _ _).symm

/-- Settles O33: in its phase each open is that phase's SEQ step, whose outcomes are known. -/
theorem openRequestOutcome : Obligations.OpenRequestOutcome := by
  unfold Obligations.OpenRequestOutcome
  intro s
  refine ⟨rfl, rfl, fun hp => ?_, fun hp => seqStep_of_ne hp _ _, fun hp => ?_, fun hp => seqStep_of_ne hp _ _,
    fun rest hpend => ⟨fun h hp henv => ?_, fun h hp henv => ?_, fun c hc herr =>
      ⟨fun hp henv => ?_, fun hp henv => ?_⟩⟩⟩
  · exact (exec_busOpen_eq_openBus hp).trans (step_of_seqOperation (by rw [hp]; rfl)).symm
  · exact (exec_sigOpen_eq_openSig hp).trans (step_of_seqOperation (by rw [hp]; rfl)).symm
  · obtain ⟨-, hok, -⟩ := openBusOutcome s rest hp hpend
    exact (exec_busOpen_eq_openBus hp).trans (hok h henv)
  · obtain ⟨-, hok, -⟩ := openSigOutcome s rest hp hpend
    exact (exec_sigOpen_eq_openSig hp).trans (hok h henv)
  · obtain ⟨-, -, hfault⟩ := openBusOutcome s rest hp hpend
    exact (exec_busOpen_eq_openBus hp).trans (hfault c hc herr henv)
  · obtain ⟨-, -, hfault⟩ := openSigOutcome s rest hp hpend
    exact (exec_sigOpen_eq_openSig hp).trans (hfault c hc herr henv)

end Sys2Proof.Machine
end

section
/-! The transfer as an operation (43_io_primitives.md R242, R243, R253). The three phases that issue it differ in the bytes
they send and in what they do with the bytes received; `IssuesTransfer` says what they share. -/

namespace Sys2Proof.Machine

variable {s u : State} {p : Phase} {site : RequestSite} {out b : List Byte} {h : Handle} {rest : List EnvEvent}

/-! ### What a transfer's phase does with the response -/

/-- What a phase does with the bytes its transfer received: LEN_XFER and BLK_XFER check them, CMD_XFER discards them
(R186, R188, R191). -/
def bytesReceived (p : Phase) (b : List Byte) (s : State) : State :=
  match p with
  | .lenXfer => lenReceived b s
  | .blkXfer => blkReceived b s
  | _ => s.goto .cmdWait

/-- What a phase does with the response to its transfer. -/
def afterTransfer (p : Phase) (site : RequestSite) (r : XferResp) (s : State) : State :=
  match r with
  | .fault c => s.raise (.transport c) (.request site)
  | .ok b => bytesReceived p b s

/-- The state `t` holds the bytes received in `u`, and whether they are accepted or raised, the trace, the environment,
the bus handle and the outstanding request stay. -/
structure HoldsReceived (b : List Byte) (u t : State) : Prop where
  rx : t.rx = some b
  trace : t.trace = u.trace
  env : t.env = u.env
  pending : t.pending = u.pending
  busH : t.busH = u.busH

/-- An error raised for the bytes received keeps them (R188, R191). -/
theorem holdsReceived_of_raise (cause : Cause) (info : ErrInfo) :
    HoldsReceived b u ((u.receive b).raise cause info) := by
  constructor <;> simp

theorem lenReceived_holdsReceived : HoldsReceived b u (lenReceived b u) := by
  by_cases hlen : b.length = 2
  · obtain ⟨b0, b1, rfl⟩ := List.length_eq_two.mp hlen
    exact ⟨rfl, rfl, rfl, rfl, rfl⟩
  · rw [lenReceived_of_length_ne hlen]
    exact holdsReceived_of_raise _ _

theorem blkReceived_holdsReceived : HoldsReceived b u (blkReceived b u) := by
  by_cases hgroups : b.length % Config.groupLen = 0
  · by_cases hlen : b.length = u.blockLen
    · rw [blkReceived_of_announced hgroups hlen]
      exact ⟨rfl, rfl, rfl, rfl, rfl⟩
    · rw [blkReceived_of_length_ne hgroups hlen]
      exact holdsReceived_of_raise _ _
  · rw [blkReceived_of_misaligned hgroups]
    exact holdsReceived_of_raise _ _

/-! ### The phases that issue a transfer -/

/-- The state's phase issues the transfer of the bytes `out`, and `afterTransfer` deals with the response (R242). -/
structure IssuesTransfer (s : State) (site : RequestSite) (out : List Byte) : Prop where
  request : requestOfPhase s = some (.busTransfer s.busH.handle out)
  stepped : step s = .next (transferStep s)
  called : transferStep s = s.callTransfer s.busH.handle out (afterTransfer s.phase site)

theorem issuesTransfer_cmdXfer (hp : s.phase = .cmdXfer) : IssuesTransfer s .cmdXfer s.frameBytes := by
  have hstep : transferStep s = cmdXferStep s := by simp [transferStep, hp]
  exact ⟨by simp [requestOfPhase, hp], hstep ▸ step_of_phase hp rfl rfl, by rw [hstep, hp]; rfl⟩

theorem issuesTransfer_lenXfer (hp : s.phase = .lenXfer) : IssuesTransfer s .lenXfer (handshakeBytes s.params) := by
  have hstep : transferStep s = lenXferStep s := by simp [transferStep, hp]
  exact ⟨by simp [requestOfPhase, hp], hstep ▸ step_of_phase hp rfl rfl, by rw [hstep, hp]; rfl⟩

theorem issuesTransfer_blkXfer (hp : s.phase = .blkXfer) : IssuesTransfer s .blkXfer (zeros s.blockLen) := by
  have hstep : transferStep s = blkXferStep s := by simp [transferStep, hp]
  exact ⟨by simp [requestOfPhase, hp], hstep ▸ step_of_phase hp rfl rfl, by rw [hstep, hp]; rfl⟩

/-- The three transfers of R242, as the statement of BUS_TRANSFER lists them. -/
theorem issuesTransfer_of_mem
    (hmem : (p, site, out) ∈ [(Phase.cmdXfer, RequestSite.cmdXfer, s.frameBytes),
      (.lenXfer, .lenXfer, [s.params.handshakeFill.1, s.params.handshakeFill.2]),
      (.blkXfer, .blkXfer, List.replicate s.blockLen 0)]) (hp : s.phase = p) : IssuesTransfer s site out := by
  simp only [List.mem_cons, Prod.mk.injEq, List.not_mem_nil, or_false] at hmem
  obtain ⟨rfl, rfl, rfl⟩ | ⟨rfl, rfl, rfl⟩ | ⟨rfl, rfl, rfl⟩ := hmem
  · exact issuesTransfer_cmdXfer hp
  · exact issuesTransfer_lenXfer hp
  · exact issuesTransfer_blkXfer hp

/-- On the open bus handle the operation runs as the phase's SEQ step (log 11). -/
theorem IssuesTransfer.exec_eq (hs : IssuesTransfer s site out) (hopen : s.busH = .opened h) :
    exec (.busTransfer h out) s = seqStep s.phase "BUS_TRANSFER" transferStep s :=
  issuedRequest_eq_seqStep (by rw [hs.request, hopen]; rfl)

/-- The bytes received, of any length, go to the phase's check (R243). -/
theorem IssuesTransfer.exec_ok (hs : IssuesTransfer s site out) (hopen : s.busH = .opened h) (hpend : s.pending = none)
    (henv : s.env = .xfer (.ok b) :: rest) : exec (.busTransfer h out) s =
      .next (bytesReceived s.phase b { s with env := rest, trace := s.trace ++ [.xfer out (.ok b)] }) :=
  (hs.exec_eq hopen).trans (seqStep_answered rfl hpend hs.called (await_response rfl henv rfl) rfl)

theorem IssuesTransfer.phase_cases (hs : IssuesTransfer s site out) :
    s.phase = .cmdXfer ∨ s.phase = .lenXfer ∨ s.phase = .blkXfer := by
  obtain ⟨-, ⟨hp, -⟩ | ⟨hp, -⟩ | ⟨hp, -⟩⟩ := requestOfPhase_eq_busTransfer.mp hs.request
  · exact .inl hp
  · exact .inr (.inl hp)
  · exact .inr (.inr hp)

/-- CMD_XFER discards the bytes received, and the other two phases hold them in `rx` (R186, R188, R191). -/
theorem IssuesTransfer.bytesReceived_cases (hs : IssuesTransfer s site out) (b : List Byte) (u : State) :
    (s.phase = .cmdXfer ∧ bytesReceived s.phase b u = u.goto .cmdWait) ∨
      (s.phase ≠ .cmdXfer ∧ HoldsReceived b u (bytesReceived s.phase b u)) := by
  obtain hp | hp | hp := hs.phase_cases <;> rw [hp]
  · exact .inl ⟨rfl, rfl⟩
  · exact .inr ⟨nofun, lenReceived_holdsReceived⟩
  · exact .inr ⟨nofun, blkReceived_holdsReceived⟩

/-- Settles O34: the three transfers run as their phases' SEQ steps, and no other transfer is issued. -/
theorem transferRequestOutcome : Obligations.TransferRequestOutcome := by
  unfold Obligations.TransferRequestOutcome
  intro s h
  refine ⟨fun _ => rfl, fun p site out hmem hp hopen => ?_, fun out hother => issuedRequest_of_ne ?_⟩
  · have hs := issuesTransfer_of_mem hmem hp
    refine ⟨?_, fun b rest hpend henv => ⟨_, hs.exec_ok hopen hpend henv, ?_⟩,
      fun c rest hc herr hpend henv => ?_⟩
    · rw [hs.exec_eq hopen, hs.stepped, seqStep_of_phase rfl]
    · subst hp
      obtain ⟨hcmd, hdiscard⟩ | ⟨hne, hholds⟩ := hs.bytesReceived_cases b _
      · rw [hdiscard]
        exact ⟨rfl, rfl, hpend, rfl, fun hne => absurd hcmd hne, fun _ => rfl⟩
      · exact ⟨hholds.trace, hholds.env, hholds.pending.trans hpend, hholds.busH, fun _ => hholds.rx,
          fun hcmd => absurd hcmd hne⟩
    · rw [hs.exec_eq hopen, hp]
      exact seqStep_transfer_faulted hp hpend herr hs.called (xferFaults_iff.mpr hc) henv fun _ => rfl
  · rw [ne_eq, requestOfPhase_eq_busTransfer]
    rintro ⟨hhandle, hissued⟩
    obtain hne | ⟨hcmd, hlen, hblk⟩ := hother
    · exact hne hhandle
    · obtain ⟨hp, hout⟩ | ⟨hp, hout⟩ | ⟨hp, hout⟩ := hissued
      · exact hcmd hp hout.symm
      · exact hlen hp hout.symm
      · exact hblk hp hout.symm

end Sys2Proof.Machine
end

section
/-! The wait as an operation, fresh and outstanding (43_io_primitives.md R246 to R248, R250, R253, R294). The two phases
that issue it differ in where they go on and in the site they raise; `IssuesWait` says what they share. -/

namespace Sys2Proof.Machine

variable {s : State} {p next : Phase} {site : RequestSite} {h : Handle} {r : WaitResp} {line seen : Bool}
  {rest : List EnvEvent}

/-! ### The phases that issue a wait -/

/-- What a phase does with the response to its wait (R187, R190). -/
def afterWait (next : Phase) (site : RequestSite) (r : WaitResp) (s : State) : State :=
  match r with
  | .fault c => s.raise (.transport c) (.request site)
  | .active => s.goto next

/-- The state's phase issues a wait on the signal handle, and `afterWait` deals with the response (R246). -/
structure IssuesWait (s : State) (next : Phase) (site : RequestSite) : Prop where
  request : requestOfPhase s = some (.sigWait s.sigH.handle)
  stepped : step s = .next (waitStep s)
  called : waitStep s = s.callWait s.sigH.handle (afterWait next site)

theorem issuesWait_cmdWait (hp : s.phase = .cmdWait) : IssuesWait s .lenXfer .cmdWait := by
  have hstep : waitStep s = cmdWaitStep s := by simp [waitStep, hp]
  exact ⟨by simp [requestOfPhase, hp], hstep ▸ step_of_phase hp rfl rfl, by rw [hstep]; rfl⟩

theorem issuesWait_blkWait (hp : s.phase = .blkWait) : IssuesWait s .blkXfer .blkWait := by
  have hstep : waitStep s = blkWaitStep s := by simp [waitStep, hp]
  exact ⟨by simp [requestOfPhase, hp], hstep ▸ step_of_phase hp rfl rfl, by rw [hstep]; rfl⟩

/-- The two waits of R246, as the statements list them. -/
theorem issuesWait_of_mem
    (hmem : (p, next, site) ∈ [(Phase.cmdWait, Phase.lenXfer, RequestSite.cmdWait), (.blkWait, .blkXfer, .blkWait)])
    (hp : s.phase = p) : IssuesWait s next site := by
  simp only [List.mem_cons, Prod.mk.injEq, List.not_mem_nil, or_false] at hmem
  obtain ⟨rfl, rfl, rfl⟩ | ⟨rfl, rfl, rfl⟩ := hmem
  · exact issuesWait_cmdWait hp
  · exact issuesWait_blkWait hp

/-- On the signal handle the operation runs as the phase's SEQ step (log 11). -/
theorem IssuesWait.exec_eq (hs : IssuesWait s next site) (hhandle : s.sigH.handle = h) :
    exec (.sigWait h) s = seqStep s.phase "SIG_WAIT" waitStep s :=
  issuedRequest_eq_seqStep (by rw [hs.request, hhandle])

theorem IssuesWait.exec_eq_step (hs : IssuesWait s next site) (hhandle : s.sigH.handle = h) :
    exec (.sigWait h) s = step s := by
  rw [hs.exec_eq hhandle, hs.stepped, seqStep_of_phase rfl]

/-- Settles O35: the two waits run as their phases' SEQ steps, and no other wait is issued. -/
theorem waitRequestOutcome : Obligations.WaitRequestOutcome := by
  unfold Obligations.WaitRequestOutcome
  intro s h
  refine ⟨rfl, fun p next site hmem hp hopen => ?_, fun hother => issuedRequest_of_ne ?_⟩
  · have hs := issuesWait_of_mem hmem hp
    have hhandle : s.sigH.handle = h := by rw [hopen]; rfl
    have hexec := hs.exec_eq hhandle
    refine ⟨hs.exec_eq_step hhandle, fun rest hpend hline henv => ?_, fun rest hpend hsense hline henv => ?_,
      fun c rest hc herr hpend henv => ?_⟩
    · exact hexec.trans (seqStep_wait_rise rfl hpend hs.called hline henv fun _ => rfl)
    · exact hexec.trans (seqStep_wait_high rfl hpend hs.called hsense hline henv fun _ => rfl)
    · subst hp
      exact hexec.trans (seqStep_wait_faulted rfl hpend herr hs.called (waitFaults_iff.mpr hc) henv fun _ => rfl)
  · rw [ne_eq, requestOfPhase_eq_sigWait]
    rintro ⟨hp, hhandle⟩
    obtain hne | ⟨hcmd, hblk⟩ := hother
    · exact hne hhandle
    · exact hp.elim hcmd hblk

/-! ### Without a rise of the line (R246, R315) -/

/-- A wait whose detector is clear is not completed by events in which the line does not rise: the detector stays clear,
and only a fault can answer. -/
theorem await_wait_of_no_rise (ps : Params) {es : List EnvEvent} : ∀ {line : Bool}, lineRises line es = false →
    (∃ line' seen', await (pickWait ps) line false es = .suspended line' seen') ∨
      ∃ c line' seen' rest, await (pickWait ps) line false es = .answered (.fault c) line' seen' rest := by
  induction es with
  | nil => exact fun {line} _ => .inl ⟨line, false, rfl⟩
  | cons e es ih =>
    intro line hrises
    obtain ⟨hstays, hrest⟩ := Bool.or_eq_false_iff.mp hrises
    cases hpick : pickWait ps false e with
    | none =>
      have hseen : seenAfter line false e = false := by
        cases e with
        | line level => exact hstays
        | busOpen | sigOpen | xfer | wait | sigClose | busClose => rfl
      rw [await_skip es hpick, hseen]
      exact ih hrest
    | some r =>
      rw [await_head es hpick]
      cases r with
      | active => exact absurd (pickWait_active hpick) nofun
      | fault c => exact .inr ⟨c, line, false, es, rfl⟩

/-- Under EDGE a wait's detector is clear when it is issued; one that is outstanding has the detector it had (R246). -/
theorem State.issue_wait_readySeen_of_edge (hsense : s.params.readySense = .edge)
    (hclear : s.pending = some (.sigWait h) → s.readySeen = false) : (s.issue (.sigWait h)).readySeen = false := by
  unfold State.issue
  split
  next hpend => exact hclear hpend
  next => simp [Request.isWait, State.seenAtIssue, hsense]

/-- A request that `await` finds no response to stays outstanding (R295). -/
theorem request_of_await_suspended {α : Type} {req : Request} {pick : Bool → EnvEvent → Option α} {event : α → Event}
    {k : α → State → State}
    (hawait : await pick s.readyLine (s.issue req).readySeen s.env = .suspended line seen) :
    s.request req pick event k = (s.issue req).hear line seen [] := by
  simp only [State.request, State.issue_readyLine, State.issue_env, hawait]

/-- Settles O37: with the detector clear and no rise, the wait stays outstanding or reports a fault. -/
theorem edgeWaitNeedsTransition : Obligations.EdgeWaitNeedsTransition := by
  unfold Obligations.EdgeWaitNeedsTransition
  intro s hsense hp hclear hrises
  obtain ⟨next, site, hs⟩ : ∃ next site, IssuesWait s next site :=
    hp.elim (fun hp => ⟨_, _, issuesWait_cmdWait hp⟩) fun hp => ⟨_, _, issuesWait_blkWait hp⟩
  refine ⟨hs.exec_eq_step rfl, _, hs.stepped.trans (congrArg _ hs.called), ?_⟩
  have hseen := State.issue_wait_readySeen_of_edge hsense hclear
  obtain ⟨line, seen, hawait⟩ | ⟨c, line, seen, rest, hawait⟩ := await_wait_of_no_rise s.params hrises
  · left
    rw [State.callWait, request_of_await_suspended (hseen ▸ hawait)]
    simp
  · right
    rw [State.callWait, request_of_await (hseen ▸ hawait)]
    exact ⟨c, by simp [afterWait], rfl, by simp [afterWait]⟩

/-! ### An outstanding wait (R294) -/

/-- An outstanding wait goes on with the detector it has. -/
theorem IssuesWait.step_of_pending (hs : IssuesWait s next site) (hpend : s.pending = some (.sigWait s.sigH.handle))
    (hawait : await (pickWait s.params) s.readyLine s.readySeen s.env = .answered r line seen rest) :
    step s = .next (afterWait next site r
      { s with
        pending := none, readyLine := line, readySeen := seen, env := rest, trace := s.trace ++ [.wait r] }) := by
  have hissue : s.issue (.sigWait s.sigH.handle) = s := if_pos hpend
  rw [hs.stepped, hs.called, State.callWait, request_of_await (by rw [hissue]; exact hawait)]
  rfl

/-! ### Any other outstanding request (R240) -/

/-- Issuing a request other than a wait leaves the same state whether it is outstanding already or not. -/
theorem State.issue_of_pending_or_not (s : State) {req : Request} (hwait : req.isWait = false) :
    State.issue { s with pending := some req } req = State.issue { s with pending := none } req := by
  simp [State.issue, hwait]

theorem request_of_pending_or_not {α : Type} {req : Request} {pick : Bool → EnvEvent → Option α} {event : α → Event}
    {k : α → State → State} (s : State) (hwait : req.isWait = false) :
    State.request { s with pending := some req } req pick event k =
      State.request { s with pending := none } req pick event k := by
  simp only [State.request, State.issue_of_pending_or_not s hwait]

/-- Two states in one phase step alike where the phase's SEQ step takes them to the same state (R101). -/
theorem step_congr_of_phase {t : State} {i : Instr} {m : String} {f : State → State} (hs : s.phase = p)
    (ht : t.phase = p) (hselect : seqOperation p = some i) (hexec : ∀ u, exec i u = seqStep p m f u)
    (hf : f s = f t) : step s = step t := by
  rw [step_of_phase hs hselect (hexec s), step_of_phase ht hselect (hexec t), hf]

/-- The step of a phase whose request is no wait is the same whether the request is outstanding or not. -/
theorem step_of_pending_or_not {req : Request} (hp : s.phase = p) (hreq : requestOfPhase s = some req)
    (hwait : req.isWait = false) : step { s with pending := some req } = step { s with pending := none } := by
  cases p with
  | openBus | openSig | cmdXfer | lenXfer | blkXfer =>
    obtain rfl : _ = req := by simpa [requestOfPhase, hp] using hreq
    refine step_congr_of_phase hp hp rfl (fun _ => rfl) ?_
    simp only [openBusStep, openSigStep, cmdXferStep, lenXferStep, blkXferStep, State.callBusOpen, State.callSigOpen,
      State.callTransfer]
    exact request_of_pending_or_not s hwait
  | closeSig =>
    obtain ⟨hopen, rfl⟩ : s.sigH.isOpen = true ∧ .sigClose s.sigH.handle = req := by
      simpa [requestOfPhase, hp] using hreq
    refine step_congr_of_phase hp hp rfl (fun _ => rfl) ?_
    simp only [closeSigStep, if_pos hopen, State.callSigClose]
    exact request_of_pending_or_not s hwait
  | closeBus =>
    obtain ⟨hopen, rfl⟩ : s.busH.isOpen = true ∧ .busClose s.busH.handle = req := by
      simpa [requestOfPhase, hp] using hreq
    refine step_congr_of_phase hp hp rfl (fun _ => rfl) ?_
    simp only [closeBusStep, if_pos hopen, State.callBusClose]
    exact request_of_pending_or_not s hwait
  | cmdWait | blkWait =>
    obtain rfl : .sigWait s.sigH.handle = req := by simpa [requestOfPhase, hp] using hreq
    exact absurd hwait nofun
  | idle | frame | done | failed => simp [requestOfPhase, hp] at hreq

/-- Settles O38: an outstanding wait goes on with the detector it has, and issuing any other request
leaves the same state whether it was outstanding or not. -/
theorem suspendedRequestGoesOn : Obligations.SuspendedRequestGoesOn := by
  unfold Obligations.SuspendedRequestGoesOn
  refine ⟨fun s rest p next site hmem hp hpend => ?_, fun s req => step_of_pending_or_not rfl⟩
  have hs := issuesWait_of_mem hmem hp
  refine ⟨fun hseen henv => ?_, fun _ hline henv => ?_, fun _ henv => ?_, fun c hc herr henv => ?_⟩
  · have hawait : await (pickWait s.params) s.readyLine s.readySeen s.env =
        .answered .active s.readyLine s.readySeen rest := by
      rw [hseen, henv]
      exact await_wait_seen s.params s.readyLine rest
    exact hs.step_of_pending hpend hawait
  · refine hs.step_of_pending hpend (line := true) (seen := true) (r := .active) ?_
    rw [hline, henv]
    exact await_wait_rise s.params _ rest
  · refine hs.step_of_pending hpend (line := true) (seen := true) (r := .active) ?_
    rw [henv, await_skip _ rfl]
    exact await_wait_rise s.params _ rest
  · refine (hs.step_of_pending hpend (henv ▸ await_wait_fault (waitFaults_iff.mpr hc) _ _ rest)).trans ?_
    exact congrArg _ (State.raise_of_none (by exact hp) (by exact herr) _ _)

end Sys2Proof.Machine
end

section
/-! The closes as operations (43_io_primitives.md R244, R249, R253). -/

namespace Sys2Proof.Machine

variable {s : State} {r : Ack} {site : RequestSite} {h : Handle} {rest : List EnvEvent}

/-! ### What a close's response leaves -/

/-- A close's response writes nothing but the error records (R285). -/
theorem State.closeResponse_cases (s : State) (r : Ack) (site : RequestSite) :
    (r = .ok ∧ s.closeResponse r site = s) ∨
      ∃ c, r = .fault c ∧ s.closeResponse r site = s.recordErr (.transport c) (.request site) := by
  cases r with
  | ok => exact .inl ⟨rfl, rfl⟩
  | fault c => exact .inr ⟨c, rfl, rfl⟩

@[simp] theorem State.closeResponse_busH (s : State) (r : Ack) (site : RequestSite) :
    (s.closeResponse r site).busH = s.busH := by
  obtain ⟨-, h⟩ | ⟨c, -, h⟩ := s.closeResponse_cases r site <;> simp [h]

@[simp] theorem State.closeResponse_sigH (s : State) (r : Ack) (site : RequestSite) :
    (s.closeResponse r site).sigH = s.sigH := by
  obtain ⟨-, h⟩ | ⟨c, -, h⟩ := s.closeResponse_cases r site <;> simp [h]

@[simp] theorem State.closeResponse_env (s : State) (r : Ack) (site : RequestSite) :
    (s.closeResponse r site).env = s.env := by
  obtain ⟨-, h⟩ | ⟨c, -, h⟩ := s.closeResponse_cases r site <;> simp [h]

@[simp] theorem State.closeResponse_pending (s : State) (r : Ack) (site : RequestSite) :
    (s.closeResponse r site).pending = s.pending := by
  obtain ⟨-, h⟩ | ⟨c, -, h⟩ := s.closeResponse_cases r site <;> simp [h]

@[simp] theorem State.closeResponse_trace (s : State) (r : Ack) (site : RequestSite) :
    (s.closeResponse r site).trace = s.trace := by
  obtain ⟨-, h⟩ | ⟨c, -, h⟩ := s.closeResponse_cases r site <;> simp [h]

/-- There is no error after a close exactly if there was none and the close did not fail (R285). -/
theorem State.closeResponse_err_eq_none : (s.closeResponse r site).err = none ↔ s.err = none ∧ r = .ok := by
  obtain ⟨rfl, h⟩ | ⟨c, rfl, h⟩ := s.closeResponse_cases r site <;> simp [h]

theorem State.finish_phase_eq_done : s.finish.phase = .done ↔ s.err = none := by
  rw [State.finish_phase_eq, State.finish_err]
  split <;> simp [*]

theorem State.finish_phase_eq_failed : s.finish.phase = .failed ↔ s.err ≠ none := by
  rw [State.finish_phase_eq, State.finish_err]
  split <;> simp [*]

/-! ### The two closes -/

/-- The responses of a close that its contract allows (R244, R249). -/
theorem allowClose_of_ok_or_ioFault (hr : r = .ok ∨ r = .fault .ioFault) : allowClose r = some r := by
  obtain rfl | rfl := hr <;> rfl

/-- BUS_CLOSE is CLOSE_BUS's step on the handle that `bus_h` holds open (R244, log 11). -/
theorem exec_busClose_eq_step (hp : s.phase = .closeBus) (hopen : s.busH = .opened h) :
    exec (.busClose h) s = step s :=
  (if_pos (requestOfPhase_eq_busClose.mpr ⟨hp, hopen⟩)).trans (step_of_phase hp rfl rfl).symm

/-- SIG_CLOSE is CLOSE_SIG's step on the handle that `sig_h` holds open (R249, log 11). -/
theorem exec_sigClose_eq_step (hp : s.phase = .closeSig) (hopen : s.sigH = .opened h) :
    exec (.sigClose h) s = step s :=
  (if_pos (requestOfPhase_eq_sigClose.mpr ⟨hp, hopen⟩)).trans (step_of_phase hp rfl rfl).symm

/-- CLOSE_BUS with an open handle releases it, records the response and ends the session (R194, R285). -/
theorem step_closeBus_response (hp : s.phase = .closeBus) (hopen : s.busH = .opened h)
    (hr : r = .ok ∨ r = .fault .ioFault) (henv : s.env = .busClose r :: rest) :
    step s = .next (((s.respond s.readyLine s.readySeen rest (.busClose r)).setBus .released).closeResponse r
      .closeBus).finish :=
  step_of_await hp rfl rfl (closeBusStep_of_open (hopen ▸ rfl))
    (await_response rfl henv (allowClose_of_ok_or_ioFault hr))

/-- CLOSE_SIG with an open handle releases it, records the response and goes to CLOSE_BUS (R193, R285). -/
theorem step_closeSig_response (hp : s.phase = .closeSig) (hopen : s.sigH = .opened h)
    (hr : r = .ok ∨ r = .fault .ioFault) (henv : s.env = .sigClose r :: rest) :
    step s = .next ((((s.respond s.readyLine s.readySeen rest (.sigClose r)).setSig .released).closeResponse r
      .closeSig).goto .closeBus) :=
  step_of_await hp rfl rfl (closeSigStep_of_open (hopen ▸ rfl))
    (await_response rfl henv (allowClose_of_ok_or_ioFault hr))

/-- Settles O36: each close runs as its phase's step, and no other close is issued. -/
theorem closeRequestOutcome : Obligations.CloseRequestOutcome := by
  unfold Obligations.CloseRequestOutcome
  intro s h
  refine ⟨rfl, rfl, fun hp hopen => ⟨exec_busClose_eq_step hp hopen, fun r rest hr _ henv => ?_⟩,
    fun hother => issuedRequest_of_ne ?_,
    fun hp hopen => ⟨exec_sigClose_eq_step hp hopen, fun r rest hr _ henv => ?_⟩,
    fun hother => issuedRequest_of_ne ?_⟩
  · refine ⟨_, (exec_busClose_eq_step hp hopen).trans (step_closeBus_response hp hopen hr henv), by simp, by simp,
      by simp, by simp, by simp, ?_, ?_⟩
    · simp [State.finish_phase_eq_done, State.closeResponse_err_eq_none]
    · simp [State.finish_phase_eq_failed, State.closeResponse_err_eq_none]
  · rw [ne_eq, requestOfPhase_eq_busClose]
    tauto
  · exact ⟨_, (exec_sigClose_eq_step hp hopen).trans (step_closeSig_response hp hopen hr henv), by simp, by simp,
      by simp, by simp, by simp, by simp, by simp [State.closeResponse_err_eq_none]⟩
  · rw [ne_eq, requestOfPhase_eq_sigClose]
    tauto

end Sys2Proof.Machine
end

section
/-! The errors and the error entry (60_exceptions.md R271, R276, R277, R280, R281, R284). -/

namespace Sys2Proof.Machine

variable {s t : State} {p : Phase} {e : ErrRec}

/-- Settles O41, by the table of the codes. -/
theorem errorCodes : Obligations.ErrorCodes := ⟨rfl, rfl, rfl⟩

/-- The error entry of a session that has an error, from a known phase (R277). -/
theorem State.raise_of_some (hp : s.phase = p) (herr : s.err = some e) (cause : Cause) (info : ErrInfo) :
    s.raise cause info = { s with secErr := s.secErr ++ [⟨cause, p, s.blkIdx, info⟩], phase := .closeSig } := by
  subst hp
  rw [State.raise, State.recordErr_of_some cause info e herr]
  rfl

/-- Settles O40: the error is recorded as the primary one where there is none and as a secondary one else. -/
theorem errorEntry : Obligations.ErrorEntry := by
  unfold Obligations.ErrorEntry
  exact fun s c info => ⟨fun herr => State.raise_of_none rfl herr c info,
    fun e herr => State.raise_of_some rfl herr c info⟩

/-- Settles O42: each phase of a session selects a SEQ step, which is enabled in that phase. -/
theorem sessionStepsGoOn : Obligations.SessionStepsGoOn := by
  unfold Obligations.SessionStepsGoOn
  intro s hb
  obtain ⟨t, hnext, -⟩ := step_of_busy hb
  exact ⟨t, hnext⟩

/-! ### The first error (R280) -/

/-- A state keeps the error `e` of another and its secondary errors, and may add to these (R280). -/
def KeepsError (e : ErrRec) (s t : State) : Prop := t.err = some e ∧ s.secErr <+: t.secErr

theorem keepsError_of_eq (herr : s.err = some e) (ht : t.err = s.err) (hsec : t.secErr = s.secErr) :
    KeepsError e s t :=
  ⟨ht.trans herr, hsec ▸ List.prefix_refl _⟩

/-- Another error recorded in a session that has one is a secondary one (R277, R285). -/
theorem KeepsError.recordErr (h : KeepsError e s t) (c : Cause) (info : ErrInfo) :
    KeepsError e s (t.recordErr c info) := by
  obtain ⟨herr, hsec⟩ := h
  rw [State.recordErr_of_some c info e herr]
  exact ⟨herr, hsec.trans (List.prefix_append _ _)⟩

theorem KeepsError.goto (h : KeepsError e s t) (p : Phase) : KeepsError e s (t.goto p) := h

theorem KeepsError.raise (h : KeepsError e s t) (c : Cause) (info : ErrInfo) : KeepsError e s (t.raise c info) :=
  (h.recordErr c info).goto .closeSig

theorem KeepsError.finish (h : KeepsError e s t) : KeepsError e s t.finish := by
  simpa [KeepsError] using h

/-- Every outcome of a step in a session that has an error keeps the error registers or adds a secondary error. -/
theorem SessionStep.keepsError (hstep : SessionStep s t) (herr : s.err = some e) : KeepsError e s t := by
  cases hstep with
  | suspended | busOpened | sigOpened | framed | commandSent | commandReady | announced | blockReady | blockReceived
  | sigClosed | sigNotOpen | busClosed | busNotOpen => exact keepsError_of_eq herr (by simp) (by simp)
  | faulted | frameRefused | lengthRefused | blockMisaligned | blockMissized =>
    refine .raise (keepsError_of_eq herr ?_ ?_) _ _ <;> simp
  | sigCloseFaulted => refine .goto (.recordErr (keepsError_of_eq herr ?_ ?_) _ _) _ <;> simp
  | busCloseFaulted => refine .finish (.recordErr (keepsError_of_eq herr ?_ ?_) _ _) <;> simp

/-- Settles O54, by the outcomes of a step inside a session. -/
theorem firstErrorStays : Obligations.FirstErrorStays := by
  unfold Obligations.FirstErrorStays
  exact fun s t e hb herr h => (sessionStep_of_step hb h).keepsError herr

end Sys2Proof.Machine
end

section
/-! A request that is never answered (60_exceptions.md R294, R295; log 5, log 13). -/

namespace Sys2Proof.Machine

variable {s : State} {req : Request}

/-- The step of `s` is to issue the request `req`, to which a change of the ready line is no response. -/
inductive StepsByRequest (s : State) (req : Request) : Prop
  | intro {α : Type} (pick : Bool → EnvEvent → Option α) (event : α → Event) (k : α → State → State)
      (hline : ∀ seen level, pick seen (.line level) = none) (hstep : step s = .next (s.request req pick event k))

/-- A phase whose SEQ step is a request takes it as its step (R101). -/
theorem stepsByRequest_of_seqStep {α : Type} {p : Phase} {i : Instr} {m : String} {f : State → State}
    {pick : Bool → EnvEvent → Option α} {event : α → Event} {k : α → State → State} (hp : s.phase = p)
    (hselect : seqOperation p = some i) (hexec : exec i s = seqStep p m f s) (hf : f s = s.request req pick event k)
    (hline : ∀ seen level, pick seen (.line level) = none) : StepsByRequest s req :=
  .intro pick event k hline ((step_of_phase hp hselect hexec).trans (congrArg _ hf))

theorem IssuesTransfer.stepsByRequest {site : RequestSite} {out : List Byte} (hs : IssuesTransfer s site out)
    (hreq : requestOfPhase s = some req) : StepsByRequest s req := by
  obtain rfl : _ = req := Option.some.inj (hs.request.symm.trans hreq)
  exact .intro _ _ _ (fun _ _ => rfl) (hs.stepped.trans (congrArg _ hs.called))

theorem IssuesWait.stepsByRequest {next : Phase} {site : RequestSite} (hs : IssuesWait s next site)
    (hreq : requestOfPhase s = some req) : StepsByRequest s req := by
  obtain rfl : _ = req := Option.some.inj (hs.request.symm.trans hreq)
  exact .intro _ _ _ (fun _ _ => rfl) (hs.stepped.trans (congrArg _ hs.called))

/-- A phase that issues a request issues it in its step (R183 to R194). -/
theorem stepsByRequest_of_phase (hreq : requestOfPhase s = some req) : StepsByRequest s req := by
  cases hp : s.phase with
  | openBus =>
    obtain rfl : _ = req := by simpa [requestOfPhase, hp] using hreq
    exact stepsByRequest_of_seqStep hp rfl rfl (openBusStep.eq_def s) fun _ _ => rfl
  | openSig =>
    obtain rfl : _ = req := by simpa [requestOfPhase, hp] using hreq
    exact stepsByRequest_of_seqStep hp rfl rfl (openSigStep.eq_def s) fun _ _ => rfl
  | cmdXfer => exact (issuesTransfer_cmdXfer hp).stepsByRequest hreq
  | cmdWait => exact (issuesWait_cmdWait hp).stepsByRequest hreq
  | lenXfer => exact (issuesTransfer_lenXfer hp).stepsByRequest hreq
  | blkWait => exact (issuesWait_blkWait hp).stepsByRequest hreq
  | blkXfer => exact (issuesTransfer_blkXfer hp).stepsByRequest hreq
  | closeSig =>
    obtain ⟨hopen, rfl⟩ : s.sigH.isOpen = true ∧ .sigClose s.sigH.handle = req := by
      simpa [requestOfPhase, hp] using hreq
    exact stepsByRequest_of_seqStep hp rfl rfl (closeSigStep_of_open hopen) fun _ _ => rfl
  | closeBus =>
    obtain ⟨hopen, rfl⟩ : s.busH.isOpen = true ∧ .busClose s.busH.handle = req := by
      simpa [requestOfPhase, hp] using hreq
    exact stepsByRequest_of_seqStep hp rfl rfl (closeBusStep_of_open hopen) fun _ _ => rfl
  | idle | frame | done | failed => simp [requestOfPhase, hp] at hreq

/-- A step that finds only changes of the line leaves its request outstanding (R295). -/
theorem StepsByRequest.suspended (h : StepsByRequest s req) (henv : ∀ e ∈ s.env, ∃ level, e = .line level) :
    ∃ line seen, step s = .next ((s.issue req).hear line seen []) := by
  obtain ⟨pick, event, k, hline, hstep⟩ := h
  have hnone : ∀ e ∈ s.env, ∀ seen, pick seen e = none := by
    intro e he seen
    obtain ⟨level, rfl⟩ := henv e he
    exact hline seen level
  obtain ⟨line, seen, hsuspended⟩ := request_suspended (req := req) (event := event) (k := k) hnone
  exact ⟨line, seen, by rw [hstep, hsuspended]⟩

/-- With its request outstanding and no event left a step changes nothing (R294, R295). -/
theorem StepsByRequest.step_eq_self (h : StepsByRequest s req) (hpend : s.pending = some req) (henv : s.env = []) :
    step s = .next s := by
  obtain ⟨pick, event, k, -, hstep⟩ := h
  have hissue : s.issue req = s := if_pos hpend
  have hhear : s.hear s.readyLine s.readySeen [] = s := by rw [← henv]; rfl
  simp [hstep, State.request, hissue, henv, await, hhear]

/-- Issuing a request writes only that it is outstanding and the detector. -/
theorem State.hear_issue (s : State) (req : Request) (line seen : Bool) (rest : List EnvEvent) :
    (s.issue req).hear line seen rest =
      { s with env := rest, readyLine := line, readySeen := seen, pending := some req } := by
  unfold State.issue
  split
  next hpend => rw [← hpend]; rfl
  next => rfl

/-- Settles O39: the suspended step leaves the state in the same phase with no event left, where the step changes
nothing. -/
theorem unansweredRequestHangs : Obligations.UnansweredRequestHangs := by
  unfold Obligations.UnansweredRequestHangs
  intro s req hreq henv
  obtain ⟨line, seen, hstep⟩ := (stepsByRequest_of_phase hreq).suspended henv
  rw [State.hear_issue] at hstep
  refine ⟨_, hstep, ?_, rfl⟩
  exact (stepsByRequest_of_phase (by exact hreq)).step_eq_self rfl rfl

end Sys2Proof.Machine
end

section
/-! The opens and the closes of the handles (60_exceptions.md R282, 70_reset_and_hazards.md R323): how one event changes
their counts in the trace, and so what each step does to `ReleasesMatch`. -/

namespace Sys2Proof.Machine

variable {s t : State} {ev : Event}

/-! ### How one event changes the counts -/

theorem State.busOpens_append (htrace : t.trace = s.trace ++ [ev]) (hparams : t.params = s.params) :
    t.busOpens = s.busOpens +
      if ev = .busOpen s.params.busId s.params.deviceId s.params.clockHz .ok then 1 else 0 := by
  simp [State.busOpens, htrace, hparams, List.countP_singleton]

theorem State.sigOpens_append (htrace : t.trace = s.trace ++ [ev]) (hparams : t.params = s.params) :
    t.sigOpens = s.sigOpens + if ev = .sigOpen s.params.pinId .ok then 1 else 0 := by
  simp [State.sigOpens, htrace, hparams, List.countP_singleton]

theorem State.busCloses_append (htrace : t.trace = s.trace ++ [ev]) :
    t.busCloses = s.busCloses + if ev.asked = .busClose then 1 else 0 := by
  simp [State.busCloses, State.asked_of_trace htrace, List.count_singleton]

theorem State.sigCloses_append (htrace : t.trace = s.trace ++ [ev]) :
    t.sigCloses = s.sigCloses + if ev.asked = .sigClose then 1 else 0 := by
  simp [State.sigCloses, State.asked_of_trace htrace, List.count_singleton]

/-- What `ReleasesMatch` asks after one event, in the counts before it. -/
theorem releasesMatch_iff_of_append (htrace : t.trace = s.trace ++ [ev]) (hparams : t.params = s.params) :
    ReleasesMatch t ↔
      (s.busOpens + if ev = .busOpen s.params.busId s.params.deviceId s.params.clockHz .ok then 1 else 0) =
          (if t.busH = .none then 0 else 1) ∧
        (s.busCloses + if ev.asked = .busClose then 1 else 0) = (if t.busH = .released then 1 else 0) ∧
        (s.sigOpens + if ev = .sigOpen s.params.pinId .ok then 1 else 0) = (if t.sigH = .none then 0 else 1) ∧
        (s.sigCloses + if ev.asked = .sigClose then 1 else 0) = (if t.sigH = .released then 1 else 0) := by
  rw [ReleasesMatch, State.busOpens_append htrace hparams, State.busCloses_append htrace,
    State.sigOpens_append htrace hparams, State.sigCloses_append htrace]

/-! ### Steps that neither open nor close a handle -/

/-- A step that keeps the trace and the handles. -/
theorem ReleasesMatch.keep (h : ReleasesMatch s) (htrace : t.trace = s.trace) (hparams : t.params = s.params)
    (hbus : t.busH = s.busH) (hsig : t.sigH = s.sigH) : ReleasesMatch t := by
  simpa [ReleasesMatch, State.busOpens, State.busCloses, State.sigOpens, State.sigCloses, State.asked, htrace, hparams,
    hbus, hsig] using h

/-- Whether an event shows that a handle was opened, or that a close was asked for. -/
def Event.movesHandle : Event → Bool
  | .busOpen _ _ _ .ok | .sigOpen _ .ok | .sigClose _ | .busClose _ => true
  | .busOpen _ _ _ (.fault _) | .sigOpen _ (.fault _) | .xfer _ _ | .wait _ => false

/-- A transport fault that is raised moves no handle: a failed open opens none (R241, R245). -/
theorem faultEvent_not_movesHandle {c : TransportCause} {site : RequestSite} (h : faultEvent s c = some (ev, site)) :
    ev.movesHandle = false := by
  unfold faultEvent at h
  split at h <;> cases h
  all_goals rfl

/-- A step that appends an event that moves no handle, and keeps the handles. -/
theorem ReleasesMatch.append (h : ReleasesMatch s) (htrace : t.trace = s.trace ++ [ev]) (hev : ev.movesHandle = false)
    (hparams : t.params = s.params) (hbus : t.busH = s.busH) (hsig : t.sigH = s.sigH) : ReleasesMatch t := by
  rw [releasesMatch_iff_of_append htrace hparams, hbus, hsig]
  cases ev with
  | busOpen _ _ _ r | sigOpen _ r =>
    cases r with
    | ok => cases hev
    | fault c => simpa [ReleasesMatch, Event.asked] using h
  | xfer | wait => simpa [ReleasesMatch, Event.asked] using h
  | sigClose | busClose => cases hev

/-! ### Steps that open or close one -/

/-- OPEN_BUS's success opens the bus handle, which was none (R183, R241). -/
theorem ReleasesMatch.openBus (h : ReleasesMatch s) (hnone : s.busH = .none) {x : Handle}
    (htrace : t.trace = s.trace ++ [.busOpen s.params.busId s.params.deviceId s.params.clockHz .ok])
    (hparams : t.params = s.params) (hbus : t.busH = .opened x) (hsig : t.sigH = s.sigH) : ReleasesMatch t := by
  rw [releasesMatch_iff_of_append htrace hparams, hbus, hsig]
  simpa [ReleasesMatch, hnone, Event.asked] using h

/-- OPEN_SIG's success opens the signal handle, which was none (R184, R245). -/
theorem ReleasesMatch.openSig (h : ReleasesMatch s) (hnone : s.sigH = .none) {x : Handle}
    (htrace : t.trace = s.trace ++ [.sigOpen s.params.pinId .ok])
    (hparams : t.params = s.params) (hbus : t.busH = s.busH) (hsig : t.sigH = .opened x) : ReleasesMatch t := by
  rw [releasesMatch_iff_of_append htrace hparams, hbus, hsig]
  simpa [ReleasesMatch, hnone, Event.asked] using h

/-- CLOSE_SIG's release of an open handle, whatever the response (R193, R249). -/
theorem ReleasesMatch.closeSig (h : ReleasesMatch s) (hopen : s.sigH.isOpen = true) {r : Ack}
    (htrace : t.trace = s.trace ++ [.sigClose r])
    (hparams : t.params = s.params) (hbus : t.busH = s.busH) (hsig : t.sigH = .released) : ReleasesMatch t := by
  rw [releasesMatch_iff_of_append htrace hparams, hbus, hsig]
  simpa [ReleasesMatch, HandleState.ne_of_isOpen hopen, Event.asked] using h

/-- CLOSE_BUS's release of an open handle, whatever the response (R194, R244). -/
theorem ReleasesMatch.closeBus (h : ReleasesMatch s) (hopen : s.busH.isOpen = true) {r : Ack}
    (htrace : t.trace = s.trace ++ [.busClose r])
    (hparams : t.params = s.params) (hbus : t.busH = .released) (hsig : t.sigH = s.sigH) : ReleasesMatch t := by
  rw [releasesMatch_iff_of_append htrace hparams, hbus, hsig]
  simpa [ReleasesMatch, HandleState.ne_of_isOpen hopen, Event.asked] using h

/-! ### Every step -/

theorem HandlesFollowPhase.busH_of_openBus (h : HandlesFollowPhase s) (hp : s.phase = .openBus) : s.busH = .none := by
  obtain ⟨hnone, -⟩ : s.busH = .none ∧ s.sigH = .none := by simpa [HandlesFollowPhase, hp] using h
  exact hnone

theorem HandlesFollowPhase.sigH_of_openSig (h : HandlesFollowPhase s) (hp : s.phase = .openSig) : s.sigH = .none := by
  obtain ⟨-, hnone⟩ : s.busH.isOpen = true ∧ s.sigH = .none := by simpa [HandlesFollowPhase, hp] using h
  exact hnone

/-- A step in a session opens a handle only where it was none and closes one only where it was open (R282). -/
theorem SessionStep.releasesMatch (hstep : SessionStep s t) (hh : HandlesFollowPhase s) (h : ReleasesMatch s) :
    ReleasesMatch t := by
  cases hstep with
  | suspended | framed | frameRefused | sigNotOpen | busNotOpen =>
    exact h.keep (by simp) (by simp) (by simp) (by simp)
  | faulted _ _ _ _ _ _ hfault =>
    exact h.append (by simp) (faultEvent_not_movesHandle hfault) (by simp) (by simp) (by simp)
  | commandSent | commandReady | announced | blockReady | blockReceived =>
    exact h.append rfl rfl (by simp) (by simp) (by simp)
  | lengthRefused | blockMisaligned | blockMissized =>
    exact h.append (State.raise_trace _ _ _) rfl (by simp) (by simp) (by simp)
  | busOpened x _ _ _ hphase =>
    exact h.openBus (hh.busH_of_openBus hphase) (x := x) (by simp) (by simp) (by simp) (by simp)
  | sigOpened x _ _ _ hphase =>
    exact h.openSig (hh.sigH_of_openSig hphase) (x := x) (by simp) (by simp) (by simp) (by simp)
  | sigClosed _ _ _ _ hopen => exact h.closeSig hopen (r := .ok) (by simp) (by simp) (by simp) (by simp)
  | sigCloseFaulted c _ _ _ _ hopen =>
    exact h.closeSig hopen (r := .fault c) (by simp) (by simp) (by simp) (by simp)
  | busClosed _ _ _ _ hopen => exact h.closeBus hopen (r := .ok) (by simp) (by simp) (by simp) (by simp)
  | busCloseFaulted c _ _ _ _ hopen =>
    exact h.closeBus hopen (r := .fault c) (by simp) (by simp) (by simp) (by simp)

/-- Outside a session an operation keeps the handles, or begins a session with none (R182). -/
theorem HostStep.handlesFollowPhase (hstep : HostStep s t) (h : HandlesFollowPhase s) : HandlesFollowPhase t := by
  cases hstep with
  | returned r => exact h
  | started => exact ⟨rfl, rfl⟩
  | taken hp => obtain hp | hp := hp <;> simpa [HandlesFollowPhase, hp] using h

theorem HostStep.releasesMatch (hstep : HostStep s t) (h : ReleasesMatch s) : ReleasesMatch t := by
  cases hstep with
  | returned | taken => exact h
  | started => exact ⟨rfl, rfl, rfl, rfl⟩

/-- Settles O48, by the outcomes of a step inside a session and outside one. -/
theorem stepKeepsReleasesMatch : Obligations.StepKeepsReleasesMatch := by
  unfold Obligations.StepKeepsReleasesMatch
  intro s t hh hr h
  cases hb : s.isBusy with
  | true =>
    have hstep := sessionStep_of_step hb h
    exact ⟨hstep.handlesFollowPhase hh, hstep.releasesMatch hh hr⟩
  | false =>
    obtain rfl | ⟨port, hstep⟩ := hostStep_of_step hb h
    · exact ⟨hh, hr⟩
    · exact ⟨hstep.handlesFollowPhase hh, hstep.releasesMatch hr⟩

/-! ### The end of a session (R282, R323) -/

theorem HandleState.eq_none_or_released {x : HandleState} (h : x.isOpen = false) : x = .none ∨ x = .released := by
  cases x with
  | none => exact .inl rfl
  | opened y => cases h
  | released => exact .inr rfl

/-- Where a session has ended no handle is open (R323). -/
theorem HandlesFollowPhase.closed_of_ended (h : HandlesFollowPhase s) (hp : s.phase = .done ∨ s.phase = .failed) :
    s.busH.isOpen = false ∧ s.sigH.isOpen = false := by
  obtain hp | hp := hp <;> simpa [HandlesFollowPhase, hp] using h

/-- With no handle open, each has been closed as often as opened, and at most once. -/
theorem ReleasesMatch.closed_as_opened (h : ReleasesMatch s) (hbus : s.busH.isOpen = false)
    (hsig : s.sigH.isOpen = false) :
    s.busCloses = s.busOpens ∧ s.busOpens ≤ 1 ∧ s.sigCloses = s.sigOpens ∧ s.sigOpens ≤ 1 := by
  obtain ⟨hbusOpens, hbusCloses, hsigOpens, hsigCloses⟩ := h
  rw [hbusOpens, hbusCloses, hsigOpens, hsigCloses]
  obtain hb | hb := HandleState.eq_none_or_released hbus <;>
    obtain hs | hs := HandleState.eq_none_or_released hsig <;> simp [hb, hs]

/-- Settles O49: the ended session meets both handle invariants, which say that none is open and how often each was. -/
theorem everyOpenedHandleClosedOnce : Obligations.EveryOpenedHandleClosedOnce := by
  unfold Obligations.EveryOpenedHandleClosedOnce
  intro s t hh hr _ h hended
  obtain ⟨hh', hr'⟩ := stepKeepsReleasesMatch s t hh hr h
  obtain ⟨hbus, hsig⟩ := hh'.closed_of_ended hended
  obtain ⟨hbusCount, hbusOnce, hsigCount, hsigOnce⟩ := hr'.closed_as_opened hbus hsig
  refine ⟨hbusCount, hbusOnce, hsigCount, hsigOnce, fun x => ⟨?_, ?_⟩⟩
  · intro hopen
    simp [hopen, HandleState.isOpen] at hbus
  · intro hopen
    simp [hopen, HandleState.isOpen] at hsig

end Sys2Proof.Machine
end

section
/-! Power-on reset and what no step writes (70_reset_and_hazards.md R310, R313; log 8). -/

namespace Sys2Proof.Machine

variable {s t : State}

/-! ### The parameters (R313) -/

/-- In a session no step writes the parameters: every outcome is made of writes to other registers. -/
theorem SessionStep.params_kept (h : SessionStep s t) : t.params = s.params := by
  cases h with
  | framed => rfl
  | suspended | faulted | busOpened | sigOpened | frameRefused | commandSent | commandReady | announced | lengthRefused
  | blockReady | blockMisaligned | blockMissized | blockReceived | sigClosed | sigCloseFaulted | sigNotOpen | busClosed
  | busCloseFaulted | busNotOpen => simp

/-- Outside a session no operation writes the parameters; START's reset of the registers does not reach them (R311). -/
theorem HostStep.params_kept (h : HostStep s t) : t.params = s.params := by
  cases h with
  | returned r => exact State.answer_params s r
  | started c => exact State.startSession_params s c
  | taken => exact State.takeOutcome_params s

/-- Settles O51, by the outcomes of a step inside a session and outside one. -/
theorem parametersNeverWritten : Obligations.ParametersNeverWritten := by
  unfold Obligations.ParametersNeverWritten
  intro s t h
  cases hb : s.isBusy with
  | true => exact (sessionStep_of_step hb h).params_kept
  | false =>
    obtain rfl | ⟨port, hstep⟩ := hostStep_of_step hb h
    · rfl
    · exact hstep.params_kept

/-! ### The state after reset (R310) -/

/-- Settles O43, by the table of the reset values (R44). -/
theorem resetRegisters : Obligations.ResetRegisters := by
  unfold Obligations.ResetRegisters
  rintro s rfl
  and_intros <;> rfl

/-- At reset nothing is written, counted, open, recorded or outstanding, and IDLE is outside every phase in which the
invariant asks for more. -/
theorem sessionInv_reset : SessionInv State.reset where
  handles := ⟨rfl, rfl⟩
  registers := ⟨fun hne => absurd rfl hne, nofun, nofun, nofun, rfl⟩
  accumulators := ⟨rfl, rfl, nofun, Nat.zero_le _, nofun, nofun, nofun⟩
  errors := ⟨nofun, fun _ => rfl, nofun, nofun, nofun, nofun, nofun⟩
  outcome := ⟨nofun, nofun, nofun⟩
  pending := pendingFollowsPhase_of_none rfl

/-- IDLE expects no requests. -/
theorem traceFollowsPhase_reset : TraceFollowsPhase State.reset := fun _ _ => nofun

/-- The empty trace opens and closes nothing, and both handles are NONE. -/
theorem releasesMatch_reset : ReleasesMatch State.reset := ⟨rfl, rfl, rfl, rfl⟩

/-- The empty trace shows no response. -/
theorem responsesAllowed_reset : ResponsesAllowed State.reset := fun _ => nofun

/-- Settles O44, by the four invariants in turn. -/
theorem resetMeetsInvariants : Obligations.ResetMeetsInvariants :=
  ⟨sessionInv_reset, traceFollowsPhase_reset, releasesMatch_reset, responsesAllowed_reset⟩

end Sys2Proof.Machine
end
